-- ==== Sys2Proof/Word.lean ====
section
/-! DEFINITION. The two widths of the hardware (00_scope.md R6): a byte, moved by every bus
transaction, and a 16-bit word, which is a register pair, SP, PC or a bus address. -/

namespace Sys2Proof

/-- u8: a general register, a memory byte, an 8-bit immediate (R6). -/
abbrev Byte := BitVec 8

/-- u16: a register pair, SP, PC or a bus address (R6, R80). Arithmetic on it wraps modulo 2^16 (R32, R33). -/
abbrev Word := BitVec 16

end Sys2Proof
end

