-- ==== Sys2Proof/Syntax.lean ====
section
/-! DEFINITION. The instruction set as syntax: one constructor of Instr for each row of
spec/opcode_table.json (the 11 reserved bytes, which the table lists under the one mnemonic INVALID, are
the one constructor invalid with the byte as its operand), the operand fields of 30_encoding.md R163 to
R169, and, for each family of rows that differ only in such a field, the function from the field to the
row. A constructor's name is its mnemonic in lower case with underscores between operands; at marks a
memory operand: ld_b_atHL is LD B,(HL), ld_atNN_sp is LD (nn),SP, ld_a_atHLinc is LD A,(HL+). -/

namespace Sys2Proof

/-- The eight-bit registers an operand field r can name (R163); code 6, (HL), is not among them. -/
inductive Reg8 where
  | b | c | d | e | h | l | a
deriving DecidableEq, Repr

/-- The operand field rp of LD rr,nn, ADD HL,rr, INC rr and DEC rr (R164). -/
inductive Reg16 where
  | bc | de | hl | sp
deriving DecidableEq, Repr

/-- The operand field rp2 of PUSH and POP (R165). -/
inductive RegStk where
  | bc | de | hl | af
deriving DecidableEq, Repr

/-- The condition field cc (R166). -/
inductive Cond where
  | nz | z | nc | c
deriving DecidableEq, Repr

/-- The ALU operation field (R168). -/
inductive AluOp where
  | add | adc | sub | sbc | and | xor | or | cp
deriving DecidableEq, Repr

/-- The rotate/shift field of CB group x = 0 (R169). -/
inductive RotOp where
  | rlc | rrc | rl | rr | sla | sra | swap | srl
deriving DecidableEq, Repr

/-- The instructions. An operand is the immediate the format gives the row (R161, R167): n an unsigned
byte, e a byte read as two's complement, nn a 16-bit value already assembled low byte first. stop keeps
the byte it ignores (R175), so that no bit of an encoding is lost. -/
inductive Instr where
  /-- A reserved byte (R173): the row INVALID. -/
  | invalid (op : Byte)
  | nop
  | ld_bc_nn (nn : Word)
  | ld_atBC_a
  | inc_bc
  | inc_b
  | dec_b
  | ld_b_n (n : Byte)
  | rlca
  | ld_atNN_sp (nn : Word)
  | add_hl_bc
  | ld_a_atBC
  | dec_bc
  | inc_c
  | dec_c
  | ld_c_n (n : Byte)
  | rrca
  | stop (n : Byte)
  | ld_de_nn (nn : Word)
  | ld_atDE_a
  | inc_de
  | inc_d
  | dec_d
  | ld_d_n (n : Byte)
  | rla
  | jr_e (e : Byte)
  | add_hl_de
  | ld_a_atDE
  | dec_de
  | inc_e
  | dec_e
  | ld_e_n (n : Byte)
  | rra
  | jr_nz_e (e : Byte)
  | ld_hl_nn (nn : Word)
  | ld_atHLinc_a
  | inc_hl
  | inc_h
  | dec_h
  | ld_h_n (n : Byte)
  | daa
  | jr_z_e (e : Byte)
  | add_hl_hl
  | ld_a_atHLinc
  | dec_hl
  | inc_l
  | dec_l
  | ld_l_n (n : Byte)
  | cpl
  | jr_nc_e (e : Byte)
  | ld_sp_nn (nn : Word)
  | ld_atHLdec_a
  | inc_sp
  | inc_atHL
  | dec_atHL
  | ld_atHL_n (n : Byte)
  | scf
  | jr_c_e (e : Byte)
  | add_hl_sp
  | ld_a_atHLdec
  | dec_sp
  | inc_a
  | dec_a
  | ld_a_n (n : Byte)
  | ccf
  | ld_b_b
  | ld_b_c
  | ld_b_d
  | ld_b_e
  | ld_b_h
  | ld_b_l
  | ld_b_atHL
  | ld_b_a
  | ld_c_b
  | ld_c_c
  | ld_c_d
  | ld_c_e
  | ld_c_h
  | ld_c_l
  | ld_c_atHL
  | ld_c_a
  | ld_d_b
  | ld_d_c
  | ld_d_d
  | ld_d_e
  | ld_d_h
  | ld_d_l
  | ld_d_atHL
  | ld_d_a
  | ld_e_b
  | ld_e_c
  | ld_e_d
  | ld_e_e
  | ld_e_h
  | ld_e_l
  | ld_e_atHL
  | ld_e_a
  | ld_h_b
  | ld_h_c
  | ld_h_d
  | ld_h_e
  | ld_h_h
  | ld_h_l
  | ld_h_atHL
  | ld_h_a
  | ld_l_b
  | ld_l_c
  | ld_l_d
  | ld_l_e
  | ld_l_h
  | ld_l_l
  | ld_l_atHL
  | ld_l_a
  | ld_atHL_b
  | ld_atHL_c
  | ld_atHL_d
  | ld_atHL_e
  | ld_atHL_h
  | ld_atHL_l
  | halt
  | ld_atHL_a
  | ld_a_b
  | ld_a_c
  | ld_a_d
  | ld_a_e
  | ld_a_h
  | ld_a_l
  | ld_a_atHL
  | ld_a_a
  | add_a_b
  | add_a_c
  | add_a_d
  | add_a_e
  | add_a_h
  | add_a_l
  | add_a_atHL
  | add_a_a
  | adc_a_b
  | adc_a_c
  | adc_a_d
  | adc_a_e
  | adc_a_h
  | adc_a_l
  | adc_a_atHL
  | adc_a_a
  | sub_b
  | sub_c
  | sub_d
  | sub_e
  | sub_h
  | sub_l
  | sub_atHL
  | sub_a
  | sbc_a_b
  | sbc_a_c
  | sbc_a_d
  | sbc_a_e
  | sbc_a_h
  | sbc_a_l
  | sbc_a_atHL
  | sbc_a_a
  | and_b
  | and_c
  | and_d
  | and_e
  | and_h
  | and_l
  | and_atHL
  | and_a
  | xor_b
  | xor_c
  | xor_d
  | xor_e
  | xor_h
  | xor_l
  | xor_atHL
  | xor_a
  | or_b
  | or_c
  | or_d
  | or_e
  | or_h
  | or_l
  | or_atHL
  | or_a
  | cp_b
  | cp_c
  | cp_d
  | cp_e
  | cp_h
  | cp_l
  | cp_atHL
  | cp_a
  | ret_nz
  | pop_bc
  | jp_nz_nn (nn : Word)
  | jp_nn (nn : Word)
  | call_nz_nn (nn : Word)
  | push_bc
  | add_a_n (n : Byte)
  | rst_0x00
  | ret_z
  | ret
  | jp_z_nn (nn : Word)
  | call_z_nn (nn : Word)
  | call_nn (nn : Word)
  | adc_a_n (n : Byte)
  | rst_0x08
  | ret_nc
  | pop_de
  | jp_nc_nn (nn : Word)
  | call_nc_nn (nn : Word)
  | push_de
  | sub_n (n : Byte)
  | rst_0x10
  | ret_c
  | reti
  | jp_c_nn (nn : Word)
  | call_c_nn (nn : Word)
  | sbc_a_n (n : Byte)
  | rst_0x18
  | ldh_atN_a (n : Byte)
  | pop_hl
  | ldh_atC_a
  | push_hl
  | and_n (n : Byte)
  | rst_0x20
  | add_sp_e (e : Byte)
  | jp_hl
  | ld_atNN_a (nn : Word)
  | xor_n (n : Byte)
  | rst_0x28
  | ldh_a_atN (n : Byte)
  | pop_af
  | ldh_a_atC
  | di
  | push_af
  | or_n (n : Byte)
  | rst_0x30
  | ld_hl_spPlusE (e : Byte)
  | ld_sp_hl
  | ld_a_atNN (nn : Word)
  | ei
  | cp_n (n : Byte)
  | rst_0x38
  | rlc_b
  | rlc_c
  | rlc_d
  | rlc_e
  | rlc_h
  | rlc_l
  | rlc_atHL
  | rlc_a
  | rrc_b
  | rrc_c
  | rrc_d
  | rrc_e
  | rrc_h
  | rrc_l
  | rrc_atHL
  | rrc_a
  | rl_b
  | rl_c
  | rl_d
  | rl_e
  | rl_h
  | rl_l
  | rl_atHL
  | rl_a
  | rr_b
  | rr_c
  | rr_d
  | rr_e
  | rr_h
  | rr_l
  | rr_atHL
  | rr_a
  | sla_b
  | sla_c
  | sla_d
  | sla_e
  | sla_h
  | sla_l
  | sla_atHL
  | sla_a
  | sra_b
  | sra_c
  | sra_d
  | sra_e
  | sra_h
  | sra_l
  | sra_atHL
  | sra_a
  | swap_b
  | swap_c
  | swap_d
  | swap_e
  | swap_h
  | swap_l
  | swap_atHL
  | swap_a
  | srl_b
  | srl_c
  | srl_d
  | srl_e
  | srl_h
  | srl_l
  | srl_atHL
  | srl_a
  | bit_0_b
  | bit_0_c
  | bit_0_d
  | bit_0_e
  | bit_0_h
  | bit_0_l
  | bit_0_atHL
  | bit_0_a
  | bit_1_b
  | bit_1_c
  | bit_1_d
  | bit_1_e
  | bit_1_h
  | bit_1_l
  | bit_1_atHL
  | bit_1_a
  | bit_2_b
  | bit_2_c
  | bit_2_d
  | bit_2_e
  | bit_2_h
  | bit_2_l
  | bit_2_atHL
  | bit_2_a
  | bit_3_b
  | bit_3_c
  | bit_3_d
  | bit_3_e
  | bit_3_h
  | bit_3_l
  | bit_3_atHL
  | bit_3_a
  | bit_4_b
  | bit_4_c
  | bit_4_d
  | bit_4_e
  | bit_4_h
  | bit_4_l
  | bit_4_atHL
  | bit_4_a
  | bit_5_b
  | bit_5_c
  | bit_5_d
  | bit_5_e
  | bit_5_h
  | bit_5_l
  | bit_5_atHL
  | bit_5_a
  | bit_6_b
  | bit_6_c
  | bit_6_d
  | bit_6_e
  | bit_6_h
  | bit_6_l
  | bit_6_atHL
  | bit_6_a
  | bit_7_b
  | bit_7_c
  | bit_7_d
  | bit_7_e
  | bit_7_h
  | bit_7_l
  | bit_7_atHL
  | bit_7_a
  | res_0_b
  | res_0_c
  | res_0_d
  | res_0_e
  | res_0_h
  | res_0_l
  | res_0_atHL
  | res_0_a
  | res_1_b
  | res_1_c
  | res_1_d
  | res_1_e
  | res_1_h
  | res_1_l
  | res_1_atHL
  | res_1_a
  | res_2_b
  | res_2_c
  | res_2_d
  | res_2_e
  | res_2_h
  | res_2_l
  | res_2_atHL
  | res_2_a
  | res_3_b
  | res_3_c
  | res_3_d
  | res_3_e
  | res_3_h
  | res_3_l
  | res_3_atHL
  | res_3_a
  | res_4_b
  | res_4_c
  | res_4_d
  | res_4_e
  | res_4_h
  | res_4_l
  | res_4_atHL
  | res_4_a
  | res_5_b
  | res_5_c
  | res_5_d
  | res_5_e
  | res_5_h
  | res_5_l
  | res_5_atHL
  | res_5_a
  | res_6_b
  | res_6_c
  | res_6_d
  | res_6_e
  | res_6_h
  | res_6_l
  | res_6_atHL
  | res_6_a
  | res_7_b
  | res_7_c
  | res_7_d
  | res_7_e
  | res_7_h
  | res_7_l
  | res_7_atHL
  | res_7_a
  | set_0_b
  | set_0_c
  | set_0_d
  | set_0_e
  | set_0_h
  | set_0_l
  | set_0_atHL
  | set_0_a
  | set_1_b
  | set_1_c
  | set_1_d
  | set_1_e
  | set_1_h
  | set_1_l
  | set_1_atHL
  | set_1_a
  | set_2_b
  | set_2_c
  | set_2_d
  | set_2_e
  | set_2_h
  | set_2_l
  | set_2_atHL
  | set_2_a
  | set_3_b
  | set_3_c
  | set_3_d
  | set_3_e
  | set_3_h
  | set_3_l
  | set_3_atHL
  | set_3_a
  | set_4_b
  | set_4_c
  | set_4_d
  | set_4_e
  | set_4_h
  | set_4_l
  | set_4_atHL
  | set_4_a
  | set_5_b
  | set_5_c
  | set_5_d
  | set_5_e
  | set_5_h
  | set_5_l
  | set_5_atHL
  | set_5_a
  | set_6_b
  | set_6_c
  | set_6_d
  | set_6_e
  | set_6_h
  | set_6_l
  | set_6_atHL
  | set_6_a
  | set_7_b
  | set_7_c
  | set_7_d
  | set_7_e
  | set_7_h
  | set_7_l
  | set_7_atHL
  | set_7_a
deriving DecidableEq, Repr

namespace Instr

/-- LD r,r' (R200). -/
def ldRegReg : Reg8 → Reg8 → Instr
  | .b, .b => .ld_b_b
  | .b, .c => .ld_b_c
  | .b, .d => .ld_b_d
  | .b, .e => .ld_b_e
  | .b, .h => .ld_b_h
  | .b, .l => .ld_b_l
  | .b, .a => .ld_b_a
  | .c, .b => .ld_c_b
  | .c, .c => .ld_c_c
  | .c, .d => .ld_c_d
  | .c, .e => .ld_c_e
  | .c, .h => .ld_c_h
  | .c, .l => .ld_c_l
  | .c, .a => .ld_c_a
  | .d, .b => .ld_d_b
  | .d, .c => .ld_d_c
  | .d, .d => .ld_d_d
  | .d, .e => .ld_d_e
  | .d, .h => .ld_d_h
  | .d, .l => .ld_d_l
  | .d, .a => .ld_d_a
  | .e, .b => .ld_e_b
  | .e, .c => .ld_e_c
  | .e, .d => .ld_e_d
  | .e, .e => .ld_e_e
  | .e, .h => .ld_e_h
  | .e, .l => .ld_e_l
  | .e, .a => .ld_e_a
  | .h, .b => .ld_h_b
  | .h, .c => .ld_h_c
  | .h, .d => .ld_h_d
  | .h, .e => .ld_h_e
  | .h, .h => .ld_h_h
  | .h, .l => .ld_h_l
  | .h, .a => .ld_h_a
  | .l, .b => .ld_l_b
  | .l, .c => .ld_l_c
  | .l, .d => .ld_l_d
  | .l, .e => .ld_l_e
  | .l, .h => .ld_l_h
  | .l, .l => .ld_l_l
  | .l, .a => .ld_l_a
  | .a, .b => .ld_a_b
  | .a, .c => .ld_a_c
  | .a, .d => .ld_a_d
  | .a, .e => .ld_a_e
  | .a, .h => .ld_a_h
  | .a, .l => .ld_a_l
  | .a, .a => .ld_a_a

/-- LD r,n (R201). -/
def ldRegImm : Reg8 → Byte → Instr
  | .b, n => .ld_b_n n
  | .c, n => .ld_c_n n
  | .d, n => .ld_d_n n
  | .e, n => .ld_e_n n
  | .h, n => .ld_h_n n
  | .l, n => .ld_l_n n
  | .a, n => .ld_a_n n

/-- LD r,(HL) (R202). -/
def ldRegAtHL : Reg8 → Instr
  | .b => .ld_b_atHL
  | .c => .ld_c_atHL
  | .d => .ld_d_atHL
  | .e => .ld_e_atHL
  | .h => .ld_h_atHL
  | .l => .ld_l_atHL
  | .a => .ld_a_atHL

/-- LD (HL),r (R203). -/
def ldAtHLReg : Reg8 → Instr
  | .b => .ld_atHL_b
  | .c => .ld_atHL_c
  | .d => .ld_atHL_d
  | .e => .ld_atHL_e
  | .h => .ld_atHL_h
  | .l => .ld_atHL_l
  | .a => .ld_atHL_a

/-- LD rr,nn (R232). -/
def ldPairImm : Reg16 → Word → Instr
  | .bc, nn => .ld_bc_nn nn
  | .de, nn => .ld_de_nn nn
  | .hl, nn => .ld_hl_nn nn
  | .sp, nn => .ld_sp_nn nn

/-- PUSH rr (R235, R236). -/
def pushPair : RegStk → Instr
  | .bc => .push_bc
  | .de => .push_de
  | .hl => .push_hl
  | .af => .push_af

/-- POP rr (R237, R238). -/
def popPair : RegStk → Instr
  | .bc => .pop_bc
  | .de => .pop_de
  | .hl => .pop_hl
  | .af => .pop_af

/-- ADD HL,rr (R290). -/
def addHLPair : Reg16 → Instr
  | .bc => .add_hl_bc
  | .de => .add_hl_de
  | .hl => .add_hl_hl
  | .sp => .add_hl_sp

/-- INC rr (R292). -/
def incPair : Reg16 → Instr
  | .bc => .inc_bc
  | .de => .inc_de
  | .hl => .inc_hl
  | .sp => .inc_sp

/-- DEC rr (R293). -/
def decPair : Reg16 → Instr
  | .bc => .dec_bc
  | .de => .dec_de
  | .hl => .dec_hl
  | .sp => .dec_sp

/-- The ALU operations on a register (R251, R254, R257, R260, R263, R266, R269, R272). -/
def aluReg : AluOp → Reg8 → Instr
  | .add, .b => .add_a_b
  | .add, .c => .add_a_c
  | .add, .d => .add_a_d
  | .add, .e => .add_a_e
  | .add, .h => .add_a_h
  | .add, .l => .add_a_l
  | .add, .a => .add_a_a
  | .adc, .b => .adc_a_b
  | .adc, .c => .adc_a_c
  | .adc, .d => .adc_a_d
  | .adc, .e => .adc_a_e
  | .adc, .h => .adc_a_h
  | .adc, .l => .adc_a_l
  | .adc, .a => .adc_a_a
  | .sub, .b => .sub_b
  | .sub, .c => .sub_c
  | .sub, .d => .sub_d
  | .sub, .e => .sub_e
  | .sub, .h => .sub_h
  | .sub, .l => .sub_l
  | .sub, .a => .sub_a
  | .sbc, .b => .sbc_a_b
  | .sbc, .c => .sbc_a_c
  | .sbc, .d => .sbc_a_d
  | .sbc, .e => .sbc_a_e
  | .sbc, .h => .sbc_a_h
  | .sbc, .l => .sbc_a_l
  | .sbc, .a => .sbc_a_a
  | .and, .b => .and_b
  | .and, .c => .and_c
  | .and, .d => .and_d
  | .and, .e => .and_e
  | .and, .h => .and_h
  | .and, .l => .and_l
  | .and, .a => .and_a
  | .xor, .b => .xor_b
  | .xor, .c => .xor_c
  | .xor, .d => .xor_d
  | .xor, .e => .xor_e
  | .xor, .h => .xor_h
  | .xor, .l => .xor_l
  | .xor, .a => .xor_a
  | .or, .b => .or_b
  | .or, .c => .or_c
  | .or, .d => .or_d
  | .or, .e => .or_e
  | .or, .h => .or_h
  | .or, .l => .or_l
  | .or, .a => .or_a
  | .cp, .b => .cp_b
  | .cp, .c => .cp_c
  | .cp, .d => .cp_d
  | .cp, .e => .cp_e
  | .cp, .h => .cp_h
  | .cp, .l => .cp_l
  | .cp, .a => .cp_a

/-- The ALU operations on (HL) (R252, R255, R258, R261, R264, R267, R270, R273). -/
def aluAtHL : AluOp → Instr
  | .add => .add_a_atHL
  | .adc => .adc_a_atHL
  | .sub => .sub_atHL
  | .sbc => .sbc_a_atHL
  | .and => .and_atHL
  | .xor => .xor_atHL
  | .or => .or_atHL
  | .cp => .cp_atHL

/-- The ALU operations on an immediate (R253, R256, R259, R262, R265, R268, R271, R274). -/
def aluImm : AluOp → Byte → Instr
  | .add, n => .add_a_n n
  | .adc, n => .adc_a_n n
  | .sub, n => .sub_n n
  | .sbc, n => .sbc_a_n n
  | .and, n => .and_n n
  | .xor, n => .xor_n n
  | .or, n => .or_n n
  | .cp, n => .cp_n n

/-- INC r (R275). -/
def incReg : Reg8 → Instr
  | .b => .inc_b
  | .c => .inc_c
  | .d => .inc_d
  | .e => .inc_e
  | .h => .inc_h
  | .l => .inc_l
  | .a => .inc_a

/-- DEC r (R277). -/
def decReg : Reg8 → Instr
  | .b => .dec_b
  | .c => .dec_c
  | .d => .dec_d
  | .e => .dec_e
  | .h => .dec_h
  | .l => .dec_l
  | .a => .dec_a

/-- The CB rotates and shifts of a register (R324 to R338, even). -/
def rotReg : RotOp → Reg8 → Instr
  | .rlc, .b => .rlc_b
  | .rlc, .c => .rlc_c
  | .rlc, .d => .rlc_d
  | .rlc, .e => .rlc_e
  | .rlc, .h => .rlc_h
  | .rlc, .l => .rlc_l
  | .rlc, .a => .rlc_a
  | .rrc, .b => .rrc_b
  | .rrc, .c => .rrc_c
  | .rrc, .d => .rrc_d
  | .rrc, .e => .rrc_e
  | .rrc, .h => .rrc_h
  | .rrc, .l => .rrc_l
  | .rrc, .a => .rrc_a
  | .rl, .b => .rl_b
  | .rl, .c => .rl_c
  | .rl, .d => .rl_d
  | .rl, .e => .rl_e
  | .rl, .h => .rl_h
  | .rl, .l => .rl_l
  | .rl, .a => .rl_a
  | .rr, .b => .rr_b
  | .rr, .c => .rr_c
  | .rr, .d => .rr_d
  | .rr, .e => .rr_e
  | .rr, .h => .rr_h
  | .rr, .l => .rr_l
  | .rr, .a => .rr_a
  | .sla, .b => .sla_b
  | .sla, .c => .sla_c
  | .sla, .d => .sla_d
  | .sla, .e => .sla_e
  | .sla, .h => .sla_h
  | .sla, .l => .sla_l
  | .sla, .a => .sla_a
  | .sra, .b => .sra_b
  | .sra, .c => .sra_c
  | .sra, .d => .sra_d
  | .sra, .e => .sra_e
  | .sra, .h => .sra_h
  | .sra, .l => .sra_l
  | .sra, .a => .sra_a
  | .swap, .b => .swap_b
  | .swap, .c => .swap_c
  | .swap, .d => .swap_d
  | .swap, .e => .swap_e
  | .swap, .h => .swap_h
  | .swap, .l => .swap_l
  | .swap, .a => .swap_a
  | .srl, .b => .srl_b
  | .srl, .c => .srl_c
  | .srl, .d => .srl_d
  | .srl, .e => .srl_e
  | .srl, .h => .srl_h
  | .srl, .l => .srl_l
  | .srl, .a => .srl_a

/-- The CB rotates and shifts of (HL) (R325 to R339, odd). -/
def rotAtHL : RotOp → Instr
  | .rlc => .rlc_atHL
  | .rrc => .rrc_atHL
  | .rl => .rl_atHL
  | .rr => .rr_atHL
  | .sla => .sla_atHL
  | .sra => .sra_atHL
  | .swap => .swap_atHL
  | .srl => .srl_atHL

/-- BIT b,r (R350). -/
def bitReg : Fin 8 → Reg8 → Instr
  | 0, .b => .bit_0_b
  | 0, .c => .bit_0_c
  | 0, .d => .bit_0_d
  | 0, .e => .bit_0_e
  | 0, .h => .bit_0_h
  | 0, .l => .bit_0_l
  | 0, .a => .bit_0_a
  | 1, .b => .bit_1_b
  | 1, .c => .bit_1_c
  | 1, .d => .bit_1_d
  | 1, .e => .bit_1_e
  | 1, .h => .bit_1_h
  | 1, .l => .bit_1_l
  | 1, .a => .bit_1_a
  | 2, .b => .bit_2_b
  | 2, .c => .bit_2_c
  | 2, .d => .bit_2_d
  | 2, .e => .bit_2_e
  | 2, .h => .bit_2_h
  | 2, .l => .bit_2_l
  | 2, .a => .bit_2_a
  | 3, .b => .bit_3_b
  | 3, .c => .bit_3_c
  | 3, .d => .bit_3_d
  | 3, .e => .bit_3_e
  | 3, .h => .bit_3_h
  | 3, .l => .bit_3_l
  | 3, .a => .bit_3_a
  | 4, .b => .bit_4_b
  | 4, .c => .bit_4_c
  | 4, .d => .bit_4_d
  | 4, .e => .bit_4_e
  | 4, .h => .bit_4_h
  | 4, .l => .bit_4_l
  | 4, .a => .bit_4_a
  | 5, .b => .bit_5_b
  | 5, .c => .bit_5_c
  | 5, .d => .bit_5_d
  | 5, .e => .bit_5_e
  | 5, .h => .bit_5_h
  | 5, .l => .bit_5_l
  | 5, .a => .bit_5_a
  | 6, .b => .bit_6_b
  | 6, .c => .bit_6_c
  | 6, .d => .bit_6_d
  | 6, .e => .bit_6_e
  | 6, .h => .bit_6_h
  | 6, .l => .bit_6_l
  | 6, .a => .bit_6_a
  | 7, .b => .bit_7_b
  | 7, .c => .bit_7_c
  | 7, .d => .bit_7_d
  | 7, .e => .bit_7_e
  | 7, .h => .bit_7_h
  | 7, .l => .bit_7_l
  | 7, .a => .bit_7_a

/-- BIT b,(HL) (R351). -/
def bitAtHL : Fin 8 → Instr
  | 0 => .bit_0_atHL
  | 1 => .bit_1_atHL
  | 2 => .bit_2_atHL
  | 3 => .bit_3_atHL
  | 4 => .bit_4_atHL
  | 5 => .bit_5_atHL
  | 6 => .bit_6_atHL
  | 7 => .bit_7_atHL

/-- RES b,r (R352). -/
def resReg : Fin 8 → Reg8 → Instr
  | 0, .b => .res_0_b
  | 0, .c => .res_0_c
  | 0, .d => .res_0_d
  | 0, .e => .res_0_e
  | 0, .h => .res_0_h
  | 0, .l => .res_0_l
  | 0, .a => .res_0_a
  | 1, .b => .res_1_b
  | 1, .c => .res_1_c
  | 1, .d => .res_1_d
  | 1, .e => .res_1_e
  | 1, .h => .res_1_h
  | 1, .l => .res_1_l
  | 1, .a => .res_1_a
  | 2, .b => .res_2_b
  | 2, .c => .res_2_c
  | 2, .d => .res_2_d
  | 2, .e => .res_2_e
  | 2, .h => .res_2_h
  | 2, .l => .res_2_l
  | 2, .a => .res_2_a
  | 3, .b => .res_3_b
  | 3, .c => .res_3_c
  | 3, .d => .res_3_d
  | 3, .e => .res_3_e
  | 3, .h => .res_3_h
  | 3, .l => .res_3_l
  | 3, .a => .res_3_a
  | 4, .b => .res_4_b
  | 4, .c => .res_4_c
  | 4, .d => .res_4_d
  | 4, .e => .res_4_e
  | 4, .h => .res_4_h
  | 4, .l => .res_4_l
  | 4, .a => .res_4_a
  | 5, .b => .res_5_b
  | 5, .c => .res_5_c
  | 5, .d => .res_5_d
  | 5, .e => .res_5_e
  | 5, .h => .res_5_h
  | 5, .l => .res_5_l
  | 5, .a => .res_5_a
  | 6, .b => .res_6_b
  | 6, .c => .res_6_c
  | 6, .d => .res_6_d
  | 6, .e => .res_6_e
  | 6, .h => .res_6_h
  | 6, .l => .res_6_l
  | 6, .a => .res_6_a
  | 7, .b => .res_7_b
  | 7, .c => .res_7_c
  | 7, .d => .res_7_d
  | 7, .e => .res_7_e
  | 7, .h => .res_7_h
  | 7, .l => .res_7_l
  | 7, .a => .res_7_a

/-- RES b,(HL) (R353). -/
def resAtHL : Fin 8 → Instr
  | 0 => .res_0_atHL
  | 1 => .res_1_atHL
  | 2 => .res_2_atHL
  | 3 => .res_3_atHL
  | 4 => .res_4_atHL
  | 5 => .res_5_atHL
  | 6 => .res_6_atHL
  | 7 => .res_7_atHL

/-- SET b,r (R354). -/
def setReg : Fin 8 → Reg8 → Instr
  | 0, .b => .set_0_b
  | 0, .c => .set_0_c
  | 0, .d => .set_0_d
  | 0, .e => .set_0_e
  | 0, .h => .set_0_h
  | 0, .l => .set_0_l
  | 0, .a => .set_0_a
  | 1, .b => .set_1_b
  | 1, .c => .set_1_c
  | 1, .d => .set_1_d
  | 1, .e => .set_1_e
  | 1, .h => .set_1_h
  | 1, .l => .set_1_l
  | 1, .a => .set_1_a
  | 2, .b => .set_2_b
  | 2, .c => .set_2_c
  | 2, .d => .set_2_d
  | 2, .e => .set_2_e
  | 2, .h => .set_2_h
  | 2, .l => .set_2_l
  | 2, .a => .set_2_a
  | 3, .b => .set_3_b
  | 3, .c => .set_3_c
  | 3, .d => .set_3_d
  | 3, .e => .set_3_e
  | 3, .h => .set_3_h
  | 3, .l => .set_3_l
  | 3, .a => .set_3_a
  | 4, .b => .set_4_b
  | 4, .c => .set_4_c
  | 4, .d => .set_4_d
  | 4, .e => .set_4_e
  | 4, .h => .set_4_h
  | 4, .l => .set_4_l
  | 4, .a => .set_4_a
  | 5, .b => .set_5_b
  | 5, .c => .set_5_c
  | 5, .d => .set_5_d
  | 5, .e => .set_5_e
  | 5, .h => .set_5_h
  | 5, .l => .set_5_l
  | 5, .a => .set_5_a
  | 6, .b => .set_6_b
  | 6, .c => .set_6_c
  | 6, .d => .set_6_d
  | 6, .e => .set_6_e
  | 6, .h => .set_6_h
  | 6, .l => .set_6_l
  | 6, .a => .set_6_a
  | 7, .b => .set_7_b
  | 7, .c => .set_7_c
  | 7, .d => .set_7_d
  | 7, .e => .set_7_e
  | 7, .h => .set_7_h
  | 7, .l => .set_7_l
  | 7, .a => .set_7_a

/-- SET b,(HL) (R355). -/
def setAtHL : Fin 8 → Instr
  | 0 => .set_0_atHL
  | 1 => .set_1_atHL
  | 2 => .set_2_atHL
  | 3 => .set_3_atHL
  | 4 => .set_4_atHL
  | 5 => .set_5_atHL
  | 6 => .set_6_atHL
  | 7 => .set_7_atHL

/-- JP cc,nn (R361). -/
def jpCond : Cond → Word → Instr
  | .nz, nn => .jp_nz_nn nn
  | .z, nn => .jp_z_nn nn
  | .nc, nn => .jp_nc_nn nn
  | .c, nn => .jp_c_nn nn

/-- JR cc,e (R364). -/
def jrCond : Cond → Byte → Instr
  | .nz, e => .jr_nz_e e
  | .z, e => .jr_z_e e
  | .nc, e => .jr_nc_e e
  | .c, e => .jr_c_e e

/-- CALL cc,nn (R366). -/
def callCond : Cond → Word → Instr
  | .nz, nn => .call_nz_nn nn
  | .z, nn => .call_z_nn nn
  | .nc, nn => .call_nc_nn nn
  | .c, nn => .call_c_nn nn

/-- RET cc (R371). -/
def retCond : Cond → Instr
  | .nz => .ret_nz
  | .z => .ret_z
  | .nc => .ret_nc
  | .c => .ret_c

/-- RST t, with target address 8 * t (R377). -/
def rst : Fin 8 → Instr
  | 0 => .rst_0x00
  | 1 => .rst_0x08
  | 2 => .rst_0x10
  | 3 => .rst_0x18
  | 4 => .rst_0x20
  | 5 => .rst_0x28
  | 6 => .rst_0x30
  | 7 => .rst_0x38

end Instr

end Sys2Proof
end

