-- ==== Sys2Proof/WellFormed.lean ====
section
/-! DEFINITION. Which terms of Instr are instructions. Every operand type is exact for its field but one:
the byte of the row INVALID must be one of the 11 reserved bytes. -/

namespace Sys2Proof

/-- The 11 reserved first bytes (30_encoding.md R173). -/
def reservedOpcodes : List Byte :=
  [0xD3, 0xDB, 0xDD, 0xE3, 0xE4, 0xEB, 0xEC, 0xED, 0xF4, 0xFC, 0xFD]

/-- A term of Instr is an instruction of the table: the row INVALID holds a reserved byte (R173); a term
of any other constructor always is one. -/
def Instr.wellFormed : Instr → Bool
  | .invalid op => decide (op ∈ reservedOpcodes)
  | _ => true

end Sys2Proof
end

