-- ==== Sys2Proof/Decode.lean ====
section
/-! DEFINITION. The byte-order helpers, the decoder and the encoder (30_encoding.md). The decoder is the two
opcode maps of R171 and R172, one definition a row of a map; the encoder is written from the match column
of opcode_table.json; decodeFields is the same decoding written a third time, from the bit fields of R170 and R169. -/

namespace Sys2Proof

/-! ### Byte order and sign (R31, R81, R167, R8) -/

/-- v[7:0], the byte at the lower address (R81). -/
def loByte (v : Word) : Byte := v.extractLsb' 0 8

/-- v[15:8], the byte at the higher address (R81). -/
def hiByte (v : Word) : Byte := v.extractLsb' 8 8

/-- hi ++ lo (R8, R31). -/
def ofBytes (hi lo : Byte) : Word := hi ++ lo

/-- sext_16 of a byte (R8, R167). -/
def sext16 (e : Byte) : Word := e.signExtend 16

/-- zext_16 of a byte (R8, R167). -/
def zext16 (n : Byte) : Word := n.setWidth 16

/-! ### Lengths (R160, R161) -/

/-- How many bytes an instruction has (R160). -/
inductive OpLen where
  | one | two | three
deriving DecidableEq, Repr

/-- The number of bytes. -/
def OpLen.bytes : OpLen → Nat
  | .one => 1
  | .two => 2
  | .three => 3

/-- The first bytes of the two-byte formats op8_imm8, op8_simm8 and cb (R161). -/
def twoByteOpcodes : List Byte :=
  [0x06, 0x0E, 0x10, 0x16, 0x18, 0x1E, 0x20, 0x26, 0x28, 0x2E, 0x30, 0x36]
    ++ [0x38, 0x3E, 0xC6, 0xCB, 0xCE, 0xD6, 0xDE, 0xE0, 0xE6, 0xE8, 0xEE, 0xF0]
    ++ [0xF6, 0xF8, 0xFE]

/-- The first bytes of the three-byte format op8_imm16 (R161). -/
def threeByteOpcodes : List Byte :=
  [0x01, 0x08, 0x11, 0x21, 0x31, 0xC2, 0xC3, 0xC4, 0xCA, 0xCC, 0xCD, 0xD2]
    ++ [0xD4, 0xDA, 0xDC, 0xEA, 0xFA]

/-- The length follows from the first byte alone (R160). -/
def opLength (op : Byte) : OpLen :=
  if op ∈ threeByteOpcodes then .three else if op ∈ twoByteOpcodes then .two else .one

/-! ### The maps (R171, R172) -/

/-- R172, row 0x. -/
def cbRow0 : List Instr :=
  [.rlc_b, .rlc_c, .rlc_d, .rlc_e, .rlc_h, .rlc_l, .rlc_atHL, .rlc_a,
   .rrc_b, .rrc_c, .rrc_d, .rrc_e, .rrc_h, .rrc_l, .rrc_atHL, .rrc_a]

/-- R172, row 1x. -/
def cbRow1 : List Instr :=
  [.rl_b, .rl_c, .rl_d, .rl_e, .rl_h, .rl_l, .rl_atHL, .rl_a,
   .rr_b, .rr_c, .rr_d, .rr_e, .rr_h, .rr_l, .rr_atHL, .rr_a]

/-- R172, row 2x. -/
def cbRow2 : List Instr :=
  [.sla_b, .sla_c, .sla_d, .sla_e, .sla_h, .sla_l, .sla_atHL, .sla_a,
   .sra_b, .sra_c, .sra_d, .sra_e, .sra_h, .sra_l, .sra_atHL, .sra_a]

/-- R172, row 3x. -/
def cbRow3 : List Instr :=
  [.swap_b, .swap_c, .swap_d, .swap_e, .swap_h, .swap_l, .swap_atHL, .swap_a,
   .srl_b, .srl_c, .srl_d, .srl_e, .srl_h, .srl_l, .srl_atHL, .srl_a]

/-- R172, row 4x. -/
def cbRow4 : List Instr :=
  [.bit_0_b, .bit_0_c, .bit_0_d, .bit_0_e, .bit_0_h, .bit_0_l, .bit_0_atHL, .bit_0_a,
   .bit_1_b, .bit_1_c, .bit_1_d, .bit_1_e, .bit_1_h, .bit_1_l, .bit_1_atHL, .bit_1_a]

/-- R172, row 5x. -/
def cbRow5 : List Instr :=
  [.bit_2_b, .bit_2_c, .bit_2_d, .bit_2_e, .bit_2_h, .bit_2_l, .bit_2_atHL, .bit_2_a,
   .bit_3_b, .bit_3_c, .bit_3_d, .bit_3_e, .bit_3_h, .bit_3_l, .bit_3_atHL, .bit_3_a]

/-- R172, row 6x. -/
def cbRow6 : List Instr :=
  [.bit_4_b, .bit_4_c, .bit_4_d, .bit_4_e, .bit_4_h, .bit_4_l, .bit_4_atHL, .bit_4_a,
   .bit_5_b, .bit_5_c, .bit_5_d, .bit_5_e, .bit_5_h, .bit_5_l, .bit_5_atHL, .bit_5_a]

/-- R172, row 7x. -/
def cbRow7 : List Instr :=
  [.bit_6_b, .bit_6_c, .bit_6_d, .bit_6_e, .bit_6_h, .bit_6_l, .bit_6_atHL, .bit_6_a,
   .bit_7_b, .bit_7_c, .bit_7_d, .bit_7_e, .bit_7_h, .bit_7_l, .bit_7_atHL, .bit_7_a]

/-- R172, row 8x. -/
def cbRow8 : List Instr :=
  [.res_0_b, .res_0_c, .res_0_d, .res_0_e, .res_0_h, .res_0_l, .res_0_atHL, .res_0_a,
   .res_1_b, .res_1_c, .res_1_d, .res_1_e, .res_1_h, .res_1_l, .res_1_atHL, .res_1_a]

/-- R172, row 9x. -/
def cbRow9 : List Instr :=
  [.res_2_b, .res_2_c, .res_2_d, .res_2_e, .res_2_h, .res_2_l, .res_2_atHL, .res_2_a,
   .res_3_b, .res_3_c, .res_3_d, .res_3_e, .res_3_h, .res_3_l, .res_3_atHL, .res_3_a]

/-- R172, row Ax. -/
def cbRowA : List Instr :=
  [.res_4_b, .res_4_c, .res_4_d, .res_4_e, .res_4_h, .res_4_l, .res_4_atHL, .res_4_a,
   .res_5_b, .res_5_c, .res_5_d, .res_5_e, .res_5_h, .res_5_l, .res_5_atHL, .res_5_a]

/-- R172, row Bx. -/
def cbRowB : List Instr :=
  [.res_6_b, .res_6_c, .res_6_d, .res_6_e, .res_6_h, .res_6_l, .res_6_atHL, .res_6_a,
   .res_7_b, .res_7_c, .res_7_d, .res_7_e, .res_7_h, .res_7_l, .res_7_atHL, .res_7_a]

/-- R172, row Cx. -/
def cbRowC : List Instr :=
  [.set_0_b, .set_0_c, .set_0_d, .set_0_e, .set_0_h, .set_0_l, .set_0_atHL, .set_0_a,
   .set_1_b, .set_1_c, .set_1_d, .set_1_e, .set_1_h, .set_1_l, .set_1_atHL, .set_1_a]

/-- R172, row Dx. -/
def cbRowD : List Instr :=
  [.set_2_b, .set_2_c, .set_2_d, .set_2_e, .set_2_h, .set_2_l, .set_2_atHL, .set_2_a,
   .set_3_b, .set_3_c, .set_3_d, .set_3_e, .set_3_h, .set_3_l, .set_3_atHL, .set_3_a]

/-- R172, row Ex. -/
def cbRowE : List Instr :=
  [.set_4_b, .set_4_c, .set_4_d, .set_4_e, .set_4_h, .set_4_l, .set_4_atHL, .set_4_a,
   .set_5_b, .set_5_c, .set_5_d, .set_5_e, .set_5_h, .set_5_l, .set_5_atHL, .set_5_a]

/-- R172, row Fx. -/
def cbRowF : List Instr :=
  [.set_6_b, .set_6_c, .set_6_d, .set_6_e, .set_6_h, .set_6_l, .set_6_atHL, .set_6_a,
   .set_7_b, .set_7_c, .set_7_d, .set_7_e, .set_7_h, .set_7_l, .set_7_atHL, .set_7_a]

/-- The sixteen rows of the CB map (R172). -/
def cbRows : List (List Instr) :=
  [cbRow0, cbRow1, cbRow2, cbRow3, cbRow4, cbRow5, cbRow6, cbRow7,
   cbRow8, cbRow9, cbRowA, cbRowB, cbRowC, cbRowD, cbRowE, cbRowF]

/-- The instruction a CB opcode byte selects: row = high nibble, column = low nibble (R172). Every byte
selects one, so the last alternative is never taken. -/
def decodeCB (cbop : Byte) : Instr :=
  match cbRows[cbop.toNat / 16]? with
  | some row => row[cbop.toNat % 16]?.getD (.invalid cbop)
  | none => .invalid cbop

/-- R171, row 0x: n is the byte after the opcode, nn the two bytes after it. -/
def mapRow0 (n : Byte) (nn : Word) : List Instr :=
  [.nop, .ld_bc_nn nn, .ld_atBC_a, .inc_bc, .inc_b, .dec_b, .ld_b_n n, .rlca,
   .ld_atNN_sp nn, .add_hl_bc, .ld_a_atBC, .dec_bc, .inc_c, .dec_c, .ld_c_n n, .rrca]

/-- R171, row 1x: n is the byte after the opcode, nn the two bytes after it. -/
def mapRow1 (n : Byte) (nn : Word) : List Instr :=
  [.stop n, .ld_de_nn nn, .ld_atDE_a, .inc_de, .inc_d, .dec_d, .ld_d_n n, .rla,
   .jr_e n, .add_hl_de, .ld_a_atDE, .dec_de, .inc_e, .dec_e, .ld_e_n n, .rra]

/-- R171, row 2x: n is the byte after the opcode, nn the two bytes after it. -/
def mapRow2 (n : Byte) (nn : Word) : List Instr :=
  [.jr_nz_e n, .ld_hl_nn nn, .ld_atHLinc_a, .inc_hl, .inc_h, .dec_h, .ld_h_n n, .daa,
   .jr_z_e n, .add_hl_hl, .ld_a_atHLinc, .dec_hl, .inc_l, .dec_l, .ld_l_n n, .cpl]

/-- R171, row 3x: n is the byte after the opcode, nn the two bytes after it. -/
def mapRow3 (n : Byte) (nn : Word) : List Instr :=
  [.jr_nc_e n, .ld_sp_nn nn, .ld_atHLdec_a, .inc_sp, .inc_atHL, .dec_atHL, .ld_atHL_n n, .scf,
   .jr_c_e n, .add_hl_sp, .ld_a_atHLdec, .dec_sp, .inc_a, .dec_a, .ld_a_n n, .ccf]

/-- R171, row 4x: n is the byte after the opcode, nn the two bytes after it. -/
def mapRow4 (_ : Byte) (_ : Word) : List Instr :=
  [.ld_b_b, .ld_b_c, .ld_b_d, .ld_b_e, .ld_b_h, .ld_b_l, .ld_b_atHL, .ld_b_a,
   .ld_c_b, .ld_c_c, .ld_c_d, .ld_c_e, .ld_c_h, .ld_c_l, .ld_c_atHL, .ld_c_a]

/-- R171, row 5x: n is the byte after the opcode, nn the two bytes after it. -/
def mapRow5 (_ : Byte) (_ : Word) : List Instr :=
  [.ld_d_b, .ld_d_c, .ld_d_d, .ld_d_e, .ld_d_h, .ld_d_l, .ld_d_atHL, .ld_d_a,
   .ld_e_b, .ld_e_c, .ld_e_d, .ld_e_e, .ld_e_h, .ld_e_l, .ld_e_atHL, .ld_e_a]

/-- R171, row 6x: n is the byte after the opcode, nn the two bytes after it. -/
def mapRow6 (_ : Byte) (_ : Word) : List Instr :=
  [.ld_h_b, .ld_h_c, .ld_h_d, .ld_h_e, .ld_h_h, .ld_h_l, .ld_h_atHL, .ld_h_a,
   .ld_l_b, .ld_l_c, .ld_l_d, .ld_l_e, .ld_l_h, .ld_l_l, .ld_l_atHL, .ld_l_a]

/-- R171, row 7x: n is the byte after the opcode, nn the two bytes after it. -/
def mapRow7 (_ : Byte) (_ : Word) : List Instr :=
  [.ld_atHL_b, .ld_atHL_c, .ld_atHL_d, .ld_atHL_e, .ld_atHL_h, .ld_atHL_l, .halt, .ld_atHL_a,
   .ld_a_b, .ld_a_c, .ld_a_d, .ld_a_e, .ld_a_h, .ld_a_l, .ld_a_atHL, .ld_a_a]

/-- R171, row 8x: n is the byte after the opcode, nn the two bytes after it. -/
def mapRow8 (_ : Byte) (_ : Word) : List Instr :=
  [.add_a_b, .add_a_c, .add_a_d, .add_a_e, .add_a_h, .add_a_l, .add_a_atHL, .add_a_a,
   .adc_a_b, .adc_a_c, .adc_a_d, .adc_a_e, .adc_a_h, .adc_a_l, .adc_a_atHL, .adc_a_a]

/-- R171, row 9x: n is the byte after the opcode, nn the two bytes after it. -/
def mapRow9 (_ : Byte) (_ : Word) : List Instr :=
  [.sub_b, .sub_c, .sub_d, .sub_e, .sub_h, .sub_l, .sub_atHL, .sub_a,
   .sbc_a_b, .sbc_a_c, .sbc_a_d, .sbc_a_e, .sbc_a_h, .sbc_a_l, .sbc_a_atHL, .sbc_a_a]

/-- R171, row Ax: n is the byte after the opcode, nn the two bytes after it. -/
def mapRowA (_ : Byte) (_ : Word) : List Instr :=
  [.and_b, .and_c, .and_d, .and_e, .and_h, .and_l, .and_atHL, .and_a,
   .xor_b, .xor_c, .xor_d, .xor_e, .xor_h, .xor_l, .xor_atHL, .xor_a]

/-- R171, row Bx: n is the byte after the opcode, nn the two bytes after it. -/
def mapRowB (_ : Byte) (_ : Word) : List Instr :=
  [.or_b, .or_c, .or_d, .or_e, .or_h, .or_l, .or_atHL, .or_a,
   .cp_b, .cp_c, .cp_d, .cp_e, .cp_h, .cp_l, .cp_atHL, .cp_a]

/-- R171, row Cx: n is the byte after the opcode, nn the two bytes after it. -/
def mapRowC (n : Byte) (nn : Word) : List Instr :=
  [.ret_nz, .pop_bc, .jp_nz_nn nn, .jp_nn nn, .call_nz_nn nn, .push_bc, .add_a_n n, .rst_0x00,
   .ret_z, .ret, .jp_z_nn nn, decodeCB n, .call_z_nn nn, .call_nn nn, .adc_a_n n, .rst_0x08]

/-- R171, row Dx: n is the byte after the opcode, nn the two bytes after it. -/
def mapRowD (n : Byte) (nn : Word) : List Instr :=
  [.ret_nc, .pop_de, .jp_nc_nn nn, .invalid 0xD3, .call_nc_nn nn, .push_de, .sub_n n, .rst_0x10,
   .ret_c, .reti, .jp_c_nn nn, .invalid 0xDB, .call_c_nn nn, .invalid 0xDD, .sbc_a_n n, .rst_0x18]

/-- R171, row Ex: n is the byte after the opcode, nn the two bytes after it. -/
def mapRowE (n : Byte) (nn : Word) : List Instr :=
  [.ldh_atN_a n, .pop_hl, .ldh_atC_a, .invalid 0xE3, .invalid 0xE4, .push_hl, .and_n n, .rst_0x20,
   .add_sp_e n, .jp_hl, .ld_atNN_a nn, .invalid 0xEB, .invalid 0xEC, .invalid 0xED, .xor_n n, .rst_0x28]

/-- R171, row Fx: n is the byte after the opcode, nn the two bytes after it. -/
def mapRowF (n : Byte) (nn : Word) : List Instr :=
  [.ldh_a_atN n, .pop_af, .ldh_a_atC, .di, .invalid 0xF4, .push_af, .or_n n, .rst_0x30,
   .ld_hl_spPlusE n, .ld_sp_hl, .ld_a_atNN nn, .ei, .invalid 0xFC, .invalid 0xFD, .cp_n n, .rst_0x38]

/-- The sixteen rows of the one-byte-opcode map (R171). -/
def mapRows (n : Byte) (nn : Word) : List (List Instr) :=
  [mapRow0 n nn, mapRow1 n nn, mapRow2 n nn, mapRow3 n nn, mapRow4 n nn, mapRow5 n nn, mapRow6 n nn, mapRow7 n nn,
   mapRow8 n nn, mapRow9 n nn, mapRowA n nn, mapRowB n nn, mapRowC n nn, mapRowD n nn, mapRowE n nn, mapRowF n nn]

/-- The instruction of an opcode byte and the two bytes after it: R190's decode through the map of R171,
which for 0xCB reads the CB map with the next byte. A format that has fewer operand bytes ignores the
rest. Every byte is in the map, so the last alternative is never taken. -/
def decodeBytes (op b1 b2 : Byte) : Instr :=
  match (mapRows b1 (ofBytes b2 b1))[op.toNat / 16]? with
  | some row => row[op.toNat % 16]?.getD (.invalid op)
  | none => .invalid op

/-- Why a byte sequence is no instruction. A reserved byte is not among the reasons: it decodes to the
table's row INVALID (R173). -/
inductive DecodeError where
  /-- There is no byte at all. -/
  | noByte
  /-- The sequence ends before the operand bytes the first byte calls for (R160). -/
  | truncated
deriving DecidableEq, Repr

/-- Decode the instruction at the head of a byte sequence, and the bytes after it. Total. -/
def decode : List Byte → Except DecodeError (Instr × List Byte)
  | [] => .error .noByte
  | op :: rest =>
    match opLength op, rest with
    | .one, rest => .ok (decodeBytes op 0 0, rest)
    | .two, b1 :: rest => .ok (decodeBytes op b1 0, rest)
    | .three, b1 :: b2 :: rest => .ok (decodeBytes op b1 b2, rest)
    | .two, [] => .error .truncated
    | .three, [] => .error .truncated
    | .three, [_] => .error .truncated

/-! ### The table's words -/

/-- The first three bytes an opcode-table word stands for (log entry 6). A row of format cb is numbered
by the table as 0xCB << 8 | second byte (R161), so its first byte is bits 15..8; every other word is laid
out with its first byte in bits 7..0. -/
def tableBytes (nbits w : Nat) : List Byte :=
  let byteAt := fun k => BitVec.ofNat 8 (w / 256 ^ k)
  if nbits = 16 ∧ byteAt 1 = 0xCB then [byteAt 1, byteAt 0, 0] else [byteAt 0, byteAt 1, byteAt 2]

/-- The instruction the decoder reads from an opcode-table word; none where there is no whole byte or the
word does not fit its bits. -/
def decodeTableWord (nbits w : Nat) : Option Instr :=
  if nbits = 0 ∨ 24 < nbits ∨ 2 ^ nbits ≤ w then none
  else
    match decode (tableBytes nbits w) with
    | .ok (i, _) => some i
    | .error _ => none

/-! ### Encoder (opcode_table.json, R161) -/

/-- The bytes of an instruction, first byte first. -/
def encode : Instr → List Byte
  | .invalid op => [op]
  | .nop => [0x00]
  | .ld_bc_nn nn => [0x01, loByte nn, hiByte nn]
  | .ld_atBC_a => [0x02]
  | .inc_bc => [0x03]
  | .inc_b => [0x04]
  | .dec_b => [0x05]
  | .ld_b_n n => [0x06, n]
  | .rlca => [0x07]
  | .ld_atNN_sp nn => [0x08, loByte nn, hiByte nn]
  | .add_hl_bc => [0x09]
  | .ld_a_atBC => [0x0A]
  | .dec_bc => [0x0B]
  | .inc_c => [0x0C]
  | .dec_c => [0x0D]
  | .ld_c_n n => [0x0E, n]
  | .rrca => [0x0F]
  | .stop n => [0x10, n]
  | .ld_de_nn nn => [0x11, loByte nn, hiByte nn]
  | .ld_atDE_a => [0x12]
  | .inc_de => [0x13]
  | .inc_d => [0x14]
  | .dec_d => [0x15]
  | .ld_d_n n => [0x16, n]
  | .rla => [0x17]
  | .jr_e e => [0x18, e]
  | .add_hl_de => [0x19]
  | .ld_a_atDE => [0x1A]
  | .dec_de => [0x1B]
  | .inc_e => [0x1C]
  | .dec_e => [0x1D]
  | .ld_e_n n => [0x1E, n]
  | .rra => [0x1F]
  | .jr_nz_e e => [0x20, e]
  | .ld_hl_nn nn => [0x21, loByte nn, hiByte nn]
  | .ld_atHLinc_a => [0x22]
  | .inc_hl => [0x23]
  | .inc_h => [0x24]
  | .dec_h => [0x25]
  | .ld_h_n n => [0x26, n]
  | .daa => [0x27]
  | .jr_z_e e => [0x28, e]
  | .add_hl_hl => [0x29]
  | .ld_a_atHLinc => [0x2A]
  | .dec_hl => [0x2B]
  | .inc_l => [0x2C]
  | .dec_l => [0x2D]
  | .ld_l_n n => [0x2E, n]
  | .cpl => [0x2F]
  | .jr_nc_e e => [0x30, e]
  | .ld_sp_nn nn => [0x31, loByte nn, hiByte nn]
  | .ld_atHLdec_a => [0x32]
  | .inc_sp => [0x33]
  | .inc_atHL => [0x34]
  | .dec_atHL => [0x35]
  | .ld_atHL_n n => [0x36, n]
  | .scf => [0x37]
  | .jr_c_e e => [0x38, e]
  | .add_hl_sp => [0x39]
  | .ld_a_atHLdec => [0x3A]
  | .dec_sp => [0x3B]
  | .inc_a => [0x3C]
  | .dec_a => [0x3D]
  | .ld_a_n n => [0x3E, n]
  | .ccf => [0x3F]
  | .ld_b_b => [0x40]
  | .ld_b_c => [0x41]
  | .ld_b_d => [0x42]
  | .ld_b_e => [0x43]
  | .ld_b_h => [0x44]
  | .ld_b_l => [0x45]
  | .ld_b_atHL => [0x46]
  | .ld_b_a => [0x47]
  | .ld_c_b => [0x48]
  | .ld_c_c => [0x49]
  | .ld_c_d => [0x4A]
  | .ld_c_e => [0x4B]
  | .ld_c_h => [0x4C]
  | .ld_c_l => [0x4D]
  | .ld_c_atHL => [0x4E]
  | .ld_c_a => [0x4F]
  | .ld_d_b => [0x50]
  | .ld_d_c => [0x51]
  | .ld_d_d => [0x52]
  | .ld_d_e => [0x53]
  | .ld_d_h => [0x54]
  | .ld_d_l => [0x55]
  | .ld_d_atHL => [0x56]
  | .ld_d_a => [0x57]
  | .ld_e_b => [0x58]
  | .ld_e_c => [0x59]
  | .ld_e_d => [0x5A]
  | .ld_e_e => [0x5B]
  | .ld_e_h => [0x5C]
  | .ld_e_l => [0x5D]
  | .ld_e_atHL => [0x5E]
  | .ld_e_a => [0x5F]
  | .ld_h_b => [0x60]
  | .ld_h_c => [0x61]
  | .ld_h_d => [0x62]
  | .ld_h_e => [0x63]
  | .ld_h_h => [0x64]
  | .ld_h_l => [0x65]
  | .ld_h_atHL => [0x66]
  | .ld_h_a => [0x67]
  | .ld_l_b => [0x68]
  | .ld_l_c => [0x69]
  | .ld_l_d => [0x6A]
  | .ld_l_e => [0x6B]
  | .ld_l_h => [0x6C]
  | .ld_l_l => [0x6D]
  | .ld_l_atHL => [0x6E]
  | .ld_l_a => [0x6F]
  | .ld_atHL_b => [0x70]
  | .ld_atHL_c => [0x71]
  | .ld_atHL_d => [0x72]
  | .ld_atHL_e => [0x73]
  | .ld_atHL_h => [0x74]
  | .ld_atHL_l => [0x75]
  | .halt => [0x76]
  | .ld_atHL_a => [0x77]
  | .ld_a_b => [0x78]
  | .ld_a_c => [0x79]
  | .ld_a_d => [0x7A]
  | .ld_a_e => [0x7B]
  | .ld_a_h => [0x7C]
  | .ld_a_l => [0x7D]
  | .ld_a_atHL => [0x7E]
  | .ld_a_a => [0x7F]
  | .add_a_b => [0x80]
  | .add_a_c => [0x81]
  | .add_a_d => [0x82]
  | .add_a_e => [0x83]
  | .add_a_h => [0x84]
  | .add_a_l => [0x85]
  | .add_a_atHL => [0x86]
  | .add_a_a => [0x87]
  | .adc_a_b => [0x88]
  | .adc_a_c => [0x89]
  | .adc_a_d => [0x8A]
  | .adc_a_e => [0x8B]
  | .adc_a_h => [0x8C]
  | .adc_a_l => [0x8D]
  | .adc_a_atHL => [0x8E]
  | .adc_a_a => [0x8F]
  | .sub_b => [0x90]
  | .sub_c => [0x91]
  | .sub_d => [0x92]
  | .sub_e => [0x93]
  | .sub_h => [0x94]
  | .sub_l => [0x95]
  | .sub_atHL => [0x96]
  | .sub_a => [0x97]
  | .sbc_a_b => [0x98]
  | .sbc_a_c => [0x99]
  | .sbc_a_d => [0x9A]
  | .sbc_a_e => [0x9B]
  | .sbc_a_h => [0x9C]
  | .sbc_a_l => [0x9D]
  | .sbc_a_atHL => [0x9E]
  | .sbc_a_a => [0x9F]
  | .and_b => [0xA0]
  | .and_c => [0xA1]
  | .and_d => [0xA2]
  | .and_e => [0xA3]
  | .and_h => [0xA4]
  | .and_l => [0xA5]
  | .and_atHL => [0xA6]
  | .and_a => [0xA7]
  | .xor_b => [0xA8]
  | .xor_c => [0xA9]
  | .xor_d => [0xAA]
  | .xor_e => [0xAB]
  | .xor_h => [0xAC]
  | .xor_l => [0xAD]
  | .xor_atHL => [0xAE]
  | .xor_a => [0xAF]
  | .or_b => [0xB0]
  | .or_c => [0xB1]
  | .or_d => [0xB2]
  | .or_e => [0xB3]
  | .or_h => [0xB4]
  | .or_l => [0xB5]
  | .or_atHL => [0xB6]
  | .or_a => [0xB7]
  | .cp_b => [0xB8]
  | .cp_c => [0xB9]
  | .cp_d => [0xBA]
  | .cp_e => [0xBB]
  | .cp_h => [0xBC]
  | .cp_l => [0xBD]
  | .cp_atHL => [0xBE]
  | .cp_a => [0xBF]
  | .ret_nz => [0xC0]
  | .pop_bc => [0xC1]
  | .jp_nz_nn nn => [0xC2, loByte nn, hiByte nn]
  | .jp_nn nn => [0xC3, loByte nn, hiByte nn]
  | .call_nz_nn nn => [0xC4, loByte nn, hiByte nn]
  | .push_bc => [0xC5]
  | .add_a_n n => [0xC6, n]
  | .rst_0x00 => [0xC7]
  | .ret_z => [0xC8]
  | .ret => [0xC9]
  | .jp_z_nn nn => [0xCA, loByte nn, hiByte nn]
  | .call_z_nn nn => [0xCC, loByte nn, hiByte nn]
  | .call_nn nn => [0xCD, loByte nn, hiByte nn]
  | .adc_a_n n => [0xCE, n]
  | .rst_0x08 => [0xCF]
  | .ret_nc => [0xD0]
  | .pop_de => [0xD1]
  | .jp_nc_nn nn => [0xD2, loByte nn, hiByte nn]
  | .call_nc_nn nn => [0xD4, loByte nn, hiByte nn]
  | .push_de => [0xD5]
  | .sub_n n => [0xD6, n]
  | .rst_0x10 => [0xD7]
  | .ret_c => [0xD8]
  | .reti => [0xD9]
  | .jp_c_nn nn => [0xDA, loByte nn, hiByte nn]
  | .call_c_nn nn => [0xDC, loByte nn, hiByte nn]
  | .sbc_a_n n => [0xDE, n]
  | .rst_0x18 => [0xDF]
  | .ldh_atN_a n => [0xE0, n]
  | .pop_hl => [0xE1]
  | .ldh_atC_a => [0xE2]
  | .push_hl => [0xE5]
  | .and_n n => [0xE6, n]
  | .rst_0x20 => [0xE7]
  | .add_sp_e e => [0xE8, e]
  | .jp_hl => [0xE9]
  | .ld_atNN_a nn => [0xEA, loByte nn, hiByte nn]
  | .xor_n n => [0xEE, n]
  | .rst_0x28 => [0xEF]
  | .ldh_a_atN n => [0xF0, n]
  | .pop_af => [0xF1]
  | .ldh_a_atC => [0xF2]
  | .di => [0xF3]
  | .push_af => [0xF5]
  | .or_n n => [0xF6, n]
  | .rst_0x30 => [0xF7]
  | .ld_hl_spPlusE e => [0xF8, e]
  | .ld_sp_hl => [0xF9]
  | .ld_a_atNN nn => [0xFA, loByte nn, hiByte nn]
  | .ei => [0xFB]
  | .cp_n n => [0xFE, n]
  | .rst_0x38 => [0xFF]
  | .rlc_b => [0xCB, 0x00]
  | .rlc_c => [0xCB, 0x01]
  | .rlc_d => [0xCB, 0x02]
  | .rlc_e => [0xCB, 0x03]
  | .rlc_h => [0xCB, 0x04]
  | .rlc_l => [0xCB, 0x05]
  | .rlc_atHL => [0xCB, 0x06]
  | .rlc_a => [0xCB, 0x07]
  | .rrc_b => [0xCB, 0x08]
  | .rrc_c => [0xCB, 0x09]
  | .rrc_d => [0xCB, 0x0A]
  | .rrc_e => [0xCB, 0x0B]
  | .rrc_h => [0xCB, 0x0C]
  | .rrc_l => [0xCB, 0x0D]
  | .rrc_atHL => [0xCB, 0x0E]
  | .rrc_a => [0xCB, 0x0F]
  | .rl_b => [0xCB, 0x10]
  | .rl_c => [0xCB, 0x11]
  | .rl_d => [0xCB, 0x12]
  | .rl_e => [0xCB, 0x13]
  | .rl_h => [0xCB, 0x14]
  | .rl_l => [0xCB, 0x15]
  | .rl_atHL => [0xCB, 0x16]
  | .rl_a => [0xCB, 0x17]
  | .rr_b => [0xCB, 0x18]
  | .rr_c => [0xCB, 0x19]
  | .rr_d => [0xCB, 0x1A]
  | .rr_e => [0xCB, 0x1B]
  | .rr_h => [0xCB, 0x1C]
  | .rr_l => [0xCB, 0x1D]
  | .rr_atHL => [0xCB, 0x1E]
  | .rr_a => [0xCB, 0x1F]
  | .sla_b => [0xCB, 0x20]
  | .sla_c => [0xCB, 0x21]
  | .sla_d => [0xCB, 0x22]
  | .sla_e => [0xCB, 0x23]
  | .sla_h => [0xCB, 0x24]
  | .sla_l => [0xCB, 0x25]
  | .sla_atHL => [0xCB, 0x26]
  | .sla_a => [0xCB, 0x27]
  | .sra_b => [0xCB, 0x28]
  | .sra_c => [0xCB, 0x29]
  | .sra_d => [0xCB, 0x2A]
  | .sra_e => [0xCB, 0x2B]
  | .sra_h => [0xCB, 0x2C]
  | .sra_l => [0xCB, 0x2D]
  | .sra_atHL => [0xCB, 0x2E]
  | .sra_a => [0xCB, 0x2F]
  | .swap_b => [0xCB, 0x30]
  | .swap_c => [0xCB, 0x31]
  | .swap_d => [0xCB, 0x32]
  | .swap_e => [0xCB, 0x33]
  | .swap_h => [0xCB, 0x34]
  | .swap_l => [0xCB, 0x35]
  | .swap_atHL => [0xCB, 0x36]
  | .swap_a => [0xCB, 0x37]
  | .srl_b => [0xCB, 0x38]
  | .srl_c => [0xCB, 0x39]
  | .srl_d => [0xCB, 0x3A]
  | .srl_e => [0xCB, 0x3B]
  | .srl_h => [0xCB, 0x3C]
  | .srl_l => [0xCB, 0x3D]
  | .srl_atHL => [0xCB, 0x3E]
  | .srl_a => [0xCB, 0x3F]
  | .bit_0_b => [0xCB, 0x40]
  | .bit_0_c => [0xCB, 0x41]
  | .bit_0_d => [0xCB, 0x42]
  | .bit_0_e => [0xCB, 0x43]
  | .bit_0_h => [0xCB, 0x44]
  | .bit_0_l => [0xCB, 0x45]
  | .bit_0_atHL => [0xCB, 0x46]
  | .bit_0_a => [0xCB, 0x47]
  | .bit_1_b => [0xCB, 0x48]
  | .bit_1_c => [0xCB, 0x49]
  | .bit_1_d => [0xCB, 0x4A]
  | .bit_1_e => [0xCB, 0x4B]
  | .bit_1_h => [0xCB, 0x4C]
  | .bit_1_l => [0xCB, 0x4D]
  | .bit_1_atHL => [0xCB, 0x4E]
  | .bit_1_a => [0xCB, 0x4F]
  | .bit_2_b => [0xCB, 0x50]
  | .bit_2_c => [0xCB, 0x51]
  | .bit_2_d => [0xCB, 0x52]
  | .bit_2_e => [0xCB, 0x53]
  | .bit_2_h => [0xCB, 0x54]
  | .bit_2_l => [0xCB, 0x55]
  | .bit_2_atHL => [0xCB, 0x56]
  | .bit_2_a => [0xCB, 0x57]
  | .bit_3_b => [0xCB, 0x58]
  | .bit_3_c => [0xCB, 0x59]
  | .bit_3_d => [0xCB, 0x5A]
  | .bit_3_e => [0xCB, 0x5B]
  | .bit_3_h => [0xCB, 0x5C]
  | .bit_3_l => [0xCB, 0x5D]
  | .bit_3_atHL => [0xCB, 0x5E]
  | .bit_3_a => [0xCB, 0x5F]
  | .bit_4_b => [0xCB, 0x60]
  | .bit_4_c => [0xCB, 0x61]
  | .bit_4_d => [0xCB, 0x62]
  | .bit_4_e => [0xCB, 0x63]
  | .bit_4_h => [0xCB, 0x64]
  | .bit_4_l => [0xCB, 0x65]
  | .bit_4_atHL => [0xCB, 0x66]
  | .bit_4_a => [0xCB, 0x67]
  | .bit_5_b => [0xCB, 0x68]
  | .bit_5_c => [0xCB, 0x69]
  | .bit_5_d => [0xCB, 0x6A]
  | .bit_5_e => [0xCB, 0x6B]
  | .bit_5_h => [0xCB, 0x6C]
  | .bit_5_l => [0xCB, 0x6D]
  | .bit_5_atHL => [0xCB, 0x6E]
  | .bit_5_a => [0xCB, 0x6F]
  | .bit_6_b => [0xCB, 0x70]
  | .bit_6_c => [0xCB, 0x71]
  | .bit_6_d => [0xCB, 0x72]
  | .bit_6_e => [0xCB, 0x73]
  | .bit_6_h => [0xCB, 0x74]
  | .bit_6_l => [0xCB, 0x75]
  | .bit_6_atHL => [0xCB, 0x76]
  | .bit_6_a => [0xCB, 0x77]
  | .bit_7_b => [0xCB, 0x78]
  | .bit_7_c => [0xCB, 0x79]
  | .bit_7_d => [0xCB, 0x7A]
  | .bit_7_e => [0xCB, 0x7B]
  | .bit_7_h => [0xCB, 0x7C]
  | .bit_7_l => [0xCB, 0x7D]
  | .bit_7_atHL => [0xCB, 0x7E]
  | .bit_7_a => [0xCB, 0x7F]
  | .res_0_b => [0xCB, 0x80]
  | .res_0_c => [0xCB, 0x81]
  | .res_0_d => [0xCB, 0x82]
  | .res_0_e => [0xCB, 0x83]
  | .res_0_h => [0xCB, 0x84]
  | .res_0_l => [0xCB, 0x85]
  | .res_0_atHL => [0xCB, 0x86]
  | .res_0_a => [0xCB, 0x87]
  | .res_1_b => [0xCB, 0x88]
  | .res_1_c => [0xCB, 0x89]
  | .res_1_d => [0xCB, 0x8A]
  | .res_1_e => [0xCB, 0x8B]
  | .res_1_h => [0xCB, 0x8C]
  | .res_1_l => [0xCB, 0x8D]
  | .res_1_atHL => [0xCB, 0x8E]
  | .res_1_a => [0xCB, 0x8F]
  | .res_2_b => [0xCB, 0x90]
  | .res_2_c => [0xCB, 0x91]
  | .res_2_d => [0xCB, 0x92]
  | .res_2_e => [0xCB, 0x93]
  | .res_2_h => [0xCB, 0x94]
  | .res_2_l => [0xCB, 0x95]
  | .res_2_atHL => [0xCB, 0x96]
  | .res_2_a => [0xCB, 0x97]
  | .res_3_b => [0xCB, 0x98]
  | .res_3_c => [0xCB, 0x99]
  | .res_3_d => [0xCB, 0x9A]
  | .res_3_e => [0xCB, 0x9B]
  | .res_3_h => [0xCB, 0x9C]
  | .res_3_l => [0xCB, 0x9D]
  | .res_3_atHL => [0xCB, 0x9E]
  | .res_3_a => [0xCB, 0x9F]
  | .res_4_b => [0xCB, 0xA0]
  | .res_4_c => [0xCB, 0xA1]
  | .res_4_d => [0xCB, 0xA2]
  | .res_4_e => [0xCB, 0xA3]
  | .res_4_h => [0xCB, 0xA4]
  | .res_4_l => [0xCB, 0xA5]
  | .res_4_atHL => [0xCB, 0xA6]
  | .res_4_a => [0xCB, 0xA7]
  | .res_5_b => [0xCB, 0xA8]
  | .res_5_c => [0xCB, 0xA9]
  | .res_5_d => [0xCB, 0xAA]
  | .res_5_e => [0xCB, 0xAB]
  | .res_5_h => [0xCB, 0xAC]
  | .res_5_l => [0xCB, 0xAD]
  | .res_5_atHL => [0xCB, 0xAE]
  | .res_5_a => [0xCB, 0xAF]
  | .res_6_b => [0xCB, 0xB0]
  | .res_6_c => [0xCB, 0xB1]
  | .res_6_d => [0xCB, 0xB2]
  | .res_6_e => [0xCB, 0xB3]
  | .res_6_h => [0xCB, 0xB4]
  | .res_6_l => [0xCB, 0xB5]
  | .res_6_atHL => [0xCB, 0xB6]
  | .res_6_a => [0xCB, 0xB7]
  | .res_7_b => [0xCB, 0xB8]
  | .res_7_c => [0xCB, 0xB9]
  | .res_7_d => [0xCB, 0xBA]
  | .res_7_e => [0xCB, 0xBB]
  | .res_7_h => [0xCB, 0xBC]
  | .res_7_l => [0xCB, 0xBD]
  | .res_7_atHL => [0xCB, 0xBE]
  | .res_7_a => [0xCB, 0xBF]
  | .set_0_b => [0xCB, 0xC0]
  | .set_0_c => [0xCB, 0xC1]
  | .set_0_d => [0xCB, 0xC2]
  | .set_0_e => [0xCB, 0xC3]
  | .set_0_h => [0xCB, 0xC4]
  | .set_0_l => [0xCB, 0xC5]
  | .set_0_atHL => [0xCB, 0xC6]
  | .set_0_a => [0xCB, 0xC7]
  | .set_1_b => [0xCB, 0xC8]
  | .set_1_c => [0xCB, 0xC9]
  | .set_1_d => [0xCB, 0xCA]
  | .set_1_e => [0xCB, 0xCB]
  | .set_1_h => [0xCB, 0xCC]
  | .set_1_l => [0xCB, 0xCD]
  | .set_1_atHL => [0xCB, 0xCE]
  | .set_1_a => [0xCB, 0xCF]
  | .set_2_b => [0xCB, 0xD0]
  | .set_2_c => [0xCB, 0xD1]
  | .set_2_d => [0xCB, 0xD2]
  | .set_2_e => [0xCB, 0xD3]
  | .set_2_h => [0xCB, 0xD4]
  | .set_2_l => [0xCB, 0xD5]
  | .set_2_atHL => [0xCB, 0xD6]
  | .set_2_a => [0xCB, 0xD7]
  | .set_3_b => [0xCB, 0xD8]
  | .set_3_c => [0xCB, 0xD9]
  | .set_3_d => [0xCB, 0xDA]
  | .set_3_e => [0xCB, 0xDB]
  | .set_3_h => [0xCB, 0xDC]
  | .set_3_l => [0xCB, 0xDD]
  | .set_3_atHL => [0xCB, 0xDE]
  | .set_3_a => [0xCB, 0xDF]
  | .set_4_b => [0xCB, 0xE0]
  | .set_4_c => [0xCB, 0xE1]
  | .set_4_d => [0xCB, 0xE2]
  | .set_4_e => [0xCB, 0xE3]
  | .set_4_h => [0xCB, 0xE4]
  | .set_4_l => [0xCB, 0xE5]
  | .set_4_atHL => [0xCB, 0xE6]
  | .set_4_a => [0xCB, 0xE7]
  | .set_5_b => [0xCB, 0xE8]
  | .set_5_c => [0xCB, 0xE9]
  | .set_5_d => [0xCB, 0xEA]
  | .set_5_e => [0xCB, 0xEB]
  | .set_5_h => [0xCB, 0xEC]
  | .set_5_l => [0xCB, 0xED]
  | .set_5_atHL => [0xCB, 0xEE]
  | .set_5_a => [0xCB, 0xEF]
  | .set_6_b => [0xCB, 0xF0]
  | .set_6_c => [0xCB, 0xF1]
  | .set_6_d => [0xCB, 0xF2]
  | .set_6_e => [0xCB, 0xF3]
  | .set_6_h => [0xCB, 0xF4]
  | .set_6_l => [0xCB, 0xF5]
  | .set_6_atHL => [0xCB, 0xF6]
  | .set_6_a => [0xCB, 0xF7]
  | .set_7_b => [0xCB, 0xF8]
  | .set_7_c => [0xCB, 0xF9]
  | .set_7_d => [0xCB, 0xFA]
  | .set_7_e => [0xCB, 0xFB]
  | .set_7_h => [0xCB, 0xFC]
  | .set_7_l => [0xCB, 0xFD]
  | .set_7_atHL => [0xCB, 0xFE]
  | .set_7_a => [0xCB, 0xFF]

/-! ### The same decoding from the bit fields (R162 to R170) -/

/-- The register that code 0..7 of field r names; code 6 is (HL) and names none (R163). -/
def regOfCode : Nat → Option Reg8
  | 0 => some .b
  | 1 => some .c
  | 2 => some .d
  | 3 => some .e
  | 4 => some .h
  | 5 => some .l
  | 7 => some .a
  | _ => none

/-- Field rp (R164). -/
def rpOfCode : Nat → Reg16
  | 0 => .bc
  | 1 => .de
  | 2 => .hl
  | _ => .sp

/-- Field rp2 (R165). -/
def rp2OfCode : Nat → RegStk
  | 0 => .bc
  | 1 => .de
  | 2 => .hl
  | _ => .af

/-- Field cc (R166). -/
def condOfCode : Nat → Cond
  | 0 => .nz
  | 1 => .z
  | 2 => .nc
  | _ => .c

/-- Field alu (R168). -/
def aluOfCode : Nat → AluOp
  | 0 => .add
  | 1 => .adc
  | 2 => .sub
  | 3 => .sbc
  | 4 => .and
  | 5 => .xor
  | 6 => .or
  | _ => .cp

/-- Field rot (R169). -/
def rotOfCode : Nat → RotOp
  | 0 => .rlc
  | 1 => .rrc
  | 2 => .rl
  | 3 => .rr
  | 4 => .sla
  | 5 => .sra
  | 6 => .swap
  | _ => .srl

/-- Field x = op[7:6] (R162). -/
def fieldX (op : Byte) : Nat := op.toNat / 64

/-- Field y = op[5:3] (R162). -/
def fieldY (op : Byte) : Nat := op.toNat / 8 % 8

/-- Field z = op[2:0] (R162). -/
def fieldZ (op : Byte) : Nat := op.toNat % 8

/-- Field p = op[5:4] (R162). -/
def fieldP (op : Byte) : Nat := op.toNat / 16 % 4

/-- Field q = op[3] (R162). -/
def fieldQ (op : Byte) : Nat := op.toNat / 8 % 2

/-- R169: x selects the group, y the operation or the bit number, z the register or (HL). -/
def decodeCBFields (op : Byte) : Instr :=
  let bitNo : Fin 8 := Fin.ofNat 8 (fieldY op)
  match fieldX op, regOfCode (fieldZ op) with
  | 0, some r => .rotReg (rotOfCode (fieldY op)) r
  | 0, none => .rotAtHL (rotOfCode (fieldY op))
  | 1, some r => .bitReg bitNo r
  | 1, none => .bitAtHL bitNo
  | 2, some r => .resReg bitNo r
  | 2, none => .resAtHL bitNo
  | _, some r => .setReg bitNo r
  | _, none => .setAtHL bitNo

/-- R170, x = 0. -/
def decodeX0 (op n : Byte) (nn : Word) : Instr :=
  let y := fieldY op
  let rp := rpOfCode (fieldP op)
  match fieldZ op with
  | 0 =>
    match y with
    | 0 => .nop
    | 1 => .ld_atNN_sp nn
    | 2 => .stop n
    | 3 => .jr_e n
    | _ => .jrCond (condOfCode (y - 4)) n
  | 1 => if fieldQ op = 0 then .ldPairImm rp nn else .addHLPair rp
  | 2 =>
    match fieldQ op, fieldP op with
    | 0, 0 => .ld_atBC_a
    | 0, 1 => .ld_atDE_a
    | 0, 2 => .ld_atHLinc_a
    | 0, _ => .ld_atHLdec_a
    | _, 0 => .ld_a_atBC
    | _, 1 => .ld_a_atDE
    | _, 2 => .ld_a_atHLinc
    | _, _ => .ld_a_atHLdec
  | 3 => if fieldQ op = 0 then .incPair rp else .decPair rp
  | 4 =>
    match regOfCode y with
    | some r => .incReg r
    | none => .inc_atHL
  | 5 =>
    match regOfCode y with
    | some r => .decReg r
    | none => .dec_atHL
  | 6 =>
    match regOfCode y with
    | some r => .ldRegImm r n
    | none => .ld_atHL_n n
  | _ =>
    match y with
    | 0 => .rlca
    | 1 => .rrca
    | 2 => .rla
    | 3 => .rra
    | 4 => .daa
    | 5 => .cpl
    | 6 => .scf
    | _ => .ccf

/-- R170, x = 1: the register loads, with HALT in the place of LD (HL),(HL) (R174). -/
def decodeX1 (op : Byte) : Instr :=
  match regOfCode (fieldY op), regOfCode (fieldZ op) with
  | some dst, some r => .ldRegReg dst r
  | some dst, none => .ldRegAtHL dst
  | none, some r => .ldAtHLReg r
  | none, none => .halt

/-- R170, x = 2. -/
def decodeX2 (op : Byte) : Instr :=
  match regOfCode (fieldZ op) with
  | some r => .aluReg (aluOfCode (fieldY op)) r
  | none => .aluAtHL (aluOfCode (fieldY op))

/-- R170, x = 3. -/
def decodeX3 (op n : Byte) (nn : Word) : Instr :=
  let y := fieldY op
  match fieldZ op with
  | 0 =>
    match y with
    | 4 => .ldh_atN_a n
    | 5 => .add_sp_e n
    | 6 => .ldh_a_atN n
    | 7 => .ld_hl_spPlusE n
    | _ => .retCond (condOfCode y)
  | 1 =>
    match fieldQ op, fieldP op with
    | 0, p => .popPair (rp2OfCode p)
    | _, 0 => .ret
    | _, 1 => .reti
    | _, 2 => .jp_hl
    | _, _ => .ld_sp_hl
  | 2 =>
    match y with
    | 4 => .ldh_atC_a
    | 5 => .ld_atNN_a nn
    | 6 => .ldh_a_atC
    | 7 => .ld_a_atNN nn
    | _ => .jpCond (condOfCode y) nn
  | 3 =>
    match y with
    | 0 => .jp_nn nn
    | 1 => decodeCBFields n
    | 6 => .di
    | 7 => .ei
    | _ => .invalid op
  | 4 => if y < 4 then .callCond (condOfCode y) nn else .invalid op
  | 5 =>
    match fieldQ op, fieldP op with
    | 0, p => .pushPair (rp2OfCode p)
    | _, 0 => .call_nn nn
    | _, _ => .invalid op
  | 6 => .aluImm (aluOfCode y) n
  | _ => .rst (Fin.ofNat 8 y)

/-- R170: the one-byte-opcode decode, exhaustive over x, y, z, p and q. -/
def decodeFields (op b1 b2 : Byte) : Instr :=
  match fieldX op with
  | 0 => decodeX0 op b1 (ofBytes b2 b1)
  | 1 => decodeX1 op
  | 2 => decodeX2 op
  | _ => decodeX3 op b1 (ofBytes b2 b1)

end Sys2Proof
end

