-- ==== Sys2Proof/Config.lean ====
section
/-! DEFINITION. The launch parameters of 00_scope.md R7, held as plain data in State.cfg so that a
statement about every state is a statement about every choice of them, and the peripheral oracle of
20_memory.md R101 as two constants with no body. INITIAL_RAM is not here: it is a draw made at load
and is an argument of State.load and State.hostReset (Machine/Load.lean). -/

namespace Sys2Proof

/-- CYCLE_UNIT (R7, D1): the unit of the count a step returns and of clock. -/
inductive CycleUnit where
  /-- The clock period: one NOP takes 4. -/
  | t
  /-- The machine cycle: every count of the spec divided by 4. -/
  | m
deriving DecidableEq, Repr

/-- RESET_PROFILE (R7, D8): which register values a load gives. -/
inductive ResetProfile where
  /-- DMG_POST_BOOT: the values of R55. -/
  | dmgPostBoot
  /-- UNSPECIFIED: A to L, F, SP and IF are draws (R56). -/
  | unspecified
deriving DecidableEq, Repr

/-- How the external peripherals answer (R101, D29). -/
inductive PeriphModel where
  /-- The proof model: every read and every write's request mask is a draw under no law. -/
  | oracle
  /-- The reference stub: storage that reads back the last byte written, initially OPEN_BUS, and
  a request mask of 0. -/
  | stub
deriving DecidableEq, Repr

/-- The named parameters of R7. -/
structure Config where
  /-- CYCLE_UNIT. -/
  cycleUnit        : CycleUnit
  /-- OPEN_BUS: what a read with no backing storage returns. -/
  openBus          : Byte
  /-- RAM_DISABLED_VALUE: what a disabled or absent cartridge RAM reads as. -/
  ramDisabledValue : Byte
  /-- RESET_PROFILE. -/
  resetProfile     : ResetProfile
  /-- PERIPH_MAPPED: the peripheral-window addresses a peripheral answers (R100). -/
  periphMapped     : List Word
  /-- HALT_TICK, in T. -/
  haltTick         : Nat
  /-- STOP_TICK, in T. -/
  stopTick         : Nat
  /-- DISPATCH_COST, in T. -/
  dispatchCost     : Nat
  /-- Which behaviour of the peripherals is modelled. -/
  periph           : PeriphModel
deriving DecidableEq, Repr

/-- `addressRun base n` is the run of n addresses that starts at base. -/
def addressRun (base n : Nat) : List Word :=
  (List.range n).map fun k => BitVec.ofNat 16 (base + k)

/-- Default PERIPH_MAPPED: the DMG register set of R102 (D29). -/
def Config.dmgPeriphMapped : List Word :=
  addressRun 0xFF00 3 ++ addressRun 0xFF04 4 ++ addressRun 0xFF10 5 ++ addressRun 0xFF16 4
    ++ addressRun 0xFF1A 5 ++ addressRun 0xFF20 7 ++ addressRun 0xFF30 16 ++ addressRun 0xFF40 12

/-- Every parameter at the default of R7, with the peripherals as the proof model's draws. -/
def Config.standard : Config where
  cycleUnit        := .t
  openBus          := 0xFF
  ramDisabledValue := 0xFF
  resetProfile     := .dmgPostBoot
  periphMapped     := Config.dmgPeriphMapped
  haltTick         := 4
  stopTick         := 4
  dispatchCost     := 20
  periph           := .oracle

/-- FREE VALUE (log entry 3). PeriphRead of R101: the byte a peripheral answers. The first argument
is the number of the draw (State.draws), so no law relates one read to another or to a write. -/
opaque Config.periphRead : Nat → Word → Byte

/-- FREE VALUE (log entry 3). PeriphWrite of R101: the mask of IF bits a peripheral sets as a side
effect of being written; only its low five bits are used (R96). -/
opaque Config.periphWrite : Nat → Word → Byte → Byte

end Sys2Proof
end

