-- ==== Sys2Proof/Machine/State.lean ====
section
/-! DEFINITION. The state of the block (10_state.md), the reasons a step stops, and the state after reset.
Everything is plain data. The register file, the interrupt and execution-control state, IE, IF, WRAM, HRAM,
the cartridge's banking state, CRAM and the clock are the spec's (R54); cart and cfg are its configuration,
constant after load (R12, R7); draws and stub are the model's own record of the external peripherals (R101). -/

namespace Sys2Proof.Machine

/-- A byte storage: (index, byte) pairs with indexes strictly rising and no entry equal to
Memory.unlisted, so that equal contents are equal data (Memory.wf, Machine/Memory.lean). -/
abbrev Memory := List Host.Cell

/-- The execution modes (R41). -/
inductive Mode where
  /-- Normal fetch and execute. -/
  | running
  /-- No fetch: each step is a halted tick until a request wakes the CPU (R430). -/
  | halted
  /-- No fetch: only a host reset leaves it (R433). -/
  | stopped
  /-- The next opcode fetch does not advance PC (R190). -/
  | haltBug
deriving DecidableEq, Repr

/-- The record of a session fault, InvalidOpcode(op, pc) (R43, R405). -/
structure InvalidOpcode where
  /-- The reserved byte. -/
  op : Byte
  /-- The address it was fetched from. -/
  pc : Word
deriving DecidableEq, Repr

/-- The five registers of the real-time clock (R143), held in their used bits: a read gives the unused bits
as 0 and a write drops them. DH is its three used bits. -/
structure Rtc where
  /-- S, six bits. -/
  sec   : BitVec 6
  /-- M, six bits. -/
  min   : BitVec 6
  /-- Hr, five bits. -/
  hour  : BitVec 5
  /-- DL: day counter bits 7 to 0. -/
  dayLo : Byte
  /-- DH bit 0: day counter bit 8. -/
  dayHi : Bool
  /-- DH bit 6: halt. -/
  halt  : Bool
  /-- DH bit 7: day carry. -/
  carry : Bool
deriving DecidableEq, Repr

/-- The all-zero clock (R55). -/
def Rtc.zero : Rtc where
  sec := 0
  min := 0
  hour := 0
  dayLo := 0
  dayHi := false
  halt := false
  carry := false

/-- The RTC register that sel = 0x08 to 0x0C names (R143). -/
inductive RtcReg where
  | s | m | hr | dl | dh
deriving DecidableEq, Repr

/-- sel of the MBC3 (R51): 0x00 to 0x03 select a RAM bank, 0x08 to 0x0C an RTC register. -/
inductive Sel where
  | ram (bank : BitVec 2)
  | rtc (reg : RtcReg)
deriving DecidableEq, Repr

/-- MBC1 banking state (R49, R50). -/
structure Mbc1 where
  /-- The RAM-enable latch (R49). -/
  ramEnable : Bool
  /-- The low ROM-bank bits, never 0 (R132). -/
  bank1     : BitVec 5
  /-- The ROM-bank high bits or the RAM bank (R133). -/
  bank2     : BitVec 2
  /-- The banking-mode flag: 0 ROM-banking, 1 RAM-banking (R134). -/
  mode      : BitVec 1
deriving DecidableEq, Repr

/-- MBC3 banking state (R49, R51). -/
structure Mbc3 where
  /-- Whether the cartridge has the clock: configuration, constant after load (R12, R121). -/
  hasRtc    : Bool
  /-- The RAM-enable latch (R49, R140). -/
  ramEnable : Bool
  /-- The ROM bank, never 0 (R141). -/
  romBank   : BitVec 7
  /-- The RAM bank or RTC register selected (R142). -/
  sel       : Sel
  /-- The last value written to 0x6000 to 0x7FFF (R145). -/
  latchPrev : Byte
  /-- The live clock, rtc_live. -/
  live      : Rtc
  /-- The latched copy that reads observe, rtc_latched. -/
  latched   : Rtc
deriving DecidableEq, Repr

/-- The cartridge's bank controller. Its constructor is the variant the header selects (R121), which no
step changes. The ROM-only variant has no latch and no RAM (R49, R125). -/
inductive Mbc where
  | romOnly
  | mbc1 (m : Mbc1)
  | mbc3 (m : Mbc3)
deriving DecidableEq, Repr

/-- What a load fixes of the cartridge beside its variant: configuration, constant after load (R12). -/
structure Cart where
  /-- The ROM image bytes, keyed by offset in the image. -/
  rom      : Memory
  /-- rom_banks, the number of 16 KiB banks (R120). -/
  romBanks : Nat
  /-- ram_size in bytes (R120, R122). -/
  ramSize  : Nat
deriving DecidableEq, Repr

/-- The machine. -/
structure State where
  /-- The launch parameters (R7). -/
  cfg       : Config
  /-- The cartridge configuration (R12). -/
  cart      : Cart
  /-- A, the accumulator (R30). -/
  a         : Byte
  /-- F: Z, N, H, C in bits 7 to 4 and zeros below (R35, R36). -/
  f         : Byte
  /-- B; with C, D, E, H and L below, the six other general registers (R30). -/
  b         : Byte
  c         : Byte
  d         : Byte
  e         : Byte
  h         : Byte
  l         : Byte
  /-- The stack pointer (R32). -/
  sp        : Word
  /-- The program counter (R33). -/
  pc        : Word
  /-- IME, the master interrupt enable (R39). -/
  ime       : Bool
  /-- ei_pending: an EI has run and its enable has not yet taken effect (R40). -/
  eiPending : Bool
  /-- The execution mode (R41). -/
  mode      : Mode
  /-- The cycle clock, unbounded (R42, R450). -/
  clock     : Nat
  /-- The session fault (R43). -/
  fault     : Option InvalidOpcode
  /-- IE, five bits (R44). -/
  ie        : BitVec 5
  /-- IF, five bits (R45). -/
  ifr       : BitVec 5
  /-- Work RAM, 8192 bytes (R47). -/
  wram      : Memory
  /-- High RAM, 127 bytes (R48). -/
  hram      : Memory
  /-- The bank controller (R49, R50, R51). -/
  mbc       : Mbc
  /-- Cartridge RAM, cart.ramSize bytes (R52). -/
  cram      : Memory
  /-- The model's own, not the spec's: how many peripheral draws have been made (R101, log entry 3). -/
  draws     : Nat
  /-- The model's own, not the spec's: the storage of the reference stub (R101, log entry 4). -/
  stub      : Memory
deriving DecidableEq, Repr

/-- Why the machine answers no next state. -/
inductive Fault where
  /-- Raised by step in a state whose session fault is set: every later step returns the same fault and
  changes no state until a load or a host reset (R404). Safe: it is the result the spec gives. -/
  | invalidOpcode (op : Byte) (pc : Word)
deriving DecidableEq, Repr

/-- Why the model gives no meaning. -/
inductive Refusal where
  /-- Raised by exec alone, for an instruction that has no meaning yet; no arm raises it. Safe. -/
  | notModelled (mnemonic : String)
deriving DecidableEq, Repr

/-- The state after a successful load of the blank cartridge, the 32 KiB image of zeros, whose header is
that of a ROM-only cartridge (R121), under the default parameters: every row of R55. The RAM contents
and the draw count are the model's choice (log entries 2 and 3), the cartridge is log entry 5. -/
def State.reset : State where
  cfg       := Config.standard
  cart      := Cart.mk [] 2 0
  a         := 0x01
  f         := 0xB0
  b         := 0x00
  c         := 0x13
  d         := 0x00
  e         := 0xD8
  h         := 0x01
  l         := 0x4D
  sp        := 0xFFFE
  pc        := 0x0100
  ime       := false
  eiPending := false
  mode      := .running
  clock     := 0
  fault     := none
  ie        := 0x00
  ifr       := 0x01
  wram      := []
  hram      := []
  mbc       := .romOnly
  cram      := []
  draws     := 0
  stub      := []

end Sys2Proof.Machine
end

