-- ==== Sys2Proof/Machine/Memory.lean ====
section
/-! DEFINITION. Byte storage: what an unlisted index reads as, reading, writing, and the canonical form. -/

namespace Sys2Proof.Machine

/-- What an index no entry lists reads as (log entry 2). -/
def Memory.unlisted : Byte := 0x00

/-- The byte at index k. -/
def Memory.read : Memory → Nat → Byte
  | [], _ => Memory.unlisted
  | (k', v) :: rest, k => if k' = k then v else Memory.read rest k

/-- An entry in front of a storage, left out where the byte is what an unlisted index reads as. -/
def Memory.entry (k : Nat) (v : Byte) (rest : Memory) : Memory :=
  if v = Memory.unlisted then rest else (k, v) :: rest

/-- Store v at index k, keeping the canonical form. -/
def Memory.write : Memory → Nat → Byte → Memory
  | [], k, v => Memory.entry k v []
  | (k', v') :: rest, k, v =>
    if k < k' then Memory.entry k v ((k', v') :: rest)
    else if k = k' then Memory.entry k v rest
    else (k', v') :: Memory.write rest k v

/-- Indexes rise strictly from lo on, lie below size, and no entry is Memory.unlisted. -/
def Memory.wfFrom (size : Nat) : Nat → Memory → Bool
  | _, [] => true
  | lo, (k, v) :: rest =>
    decide (lo ≤ k) && decide (k < size) && decide (v ≠ Memory.unlisted) && Memory.wfFrom size (k + 1) rest

/-- The canonical form of a storage of size bytes. -/
def Memory.wf (size : Nat) (m : Memory) : Bool := Memory.wfFrom size 0 m

/-- A storage of size bytes with the contents of any list of cells: a later cell for an index overrides
an earlier one, and cells from size on are dropped. -/
def Memory.ofCells (size : Nat) (cells : List Host.Cell) : Memory :=
  cells.foldl (fun m cell => if cell.1 < size then m.write cell.1 cell.2 else m) []

end Sys2Proof.Machine
end

