-- ==== Sys2Proof/Machine/Cartridge.lean ====
section
/-! DEFINITION. The cartridge bank controllers (20_memory.md sections 3 to 6): translation of ROM and RAM
addresses, the RAM window, the control windows, and the real-time clock. -/

namespace Sys2Proof.Machine

/-! ### The real-time clock (R143, R146) -/

/-- A read returns the register with its unused bits 0 (R143). -/
def Rtc.read (k : Rtc) : RtcReg → Byte
  | .s => k.sec.setWidth 8
  | .m => k.min.setWidth 8
  | .hr => k.hour.setWidth 8
  | .dl => k.dayLo
  | .dh => BitVec.ofBool k.carry ++ BitVec.ofBool k.halt ++ 0#5 ++ BitVec.ofBool k.dayHi

/-- A write keeps the register's used bits (the write mask of R143). -/
def Rtc.write (k : Rtc) (v : Byte) : RtcReg → Rtc
  | .s => { k with sec := v.setWidth 6 }
  | .m => { k with min := v.setWidth 6 }
  | .hr => { k with hour := v.setWidth 5 }
  | .dl => { k with dayLo := v }
  | .dh => { k with dayHi := v.getLsbD 0, halt := v.getLsbD 6, carry := v.getLsbD 7 }

/-- day = DH[0] ++ DL (R143). -/
def Rtc.day (k : Rtc) : BitVec 9 := BitVec.ofBool k.dayHi ++ k.dayLo

/-- The day count goes up by one; 512 becomes 0 and sets the sticky carry (R146). -/
def Rtc.nextDay (k : Rtc) : Rtc :=
  let day := k.day + 1
  { k with dayLo := day.extractLsb' 0 8, dayHi := day.getLsbD 8, carry := k.carry || decide (day = 0) }

/-- tick() of R146: one second. A register counts up to its width limit, so an out-of-range value wraps to
0 with no carry. -/
def Rtc.tick (k : Rtc) : Rtc :=
  if k.halt then k
  else
    let k1 := { k with sec := k.sec + 1 }
    if k1.sec ≠ 60 then k1
    else
      let k2 := { k1 with sec := 0, min := k1.min + 1 }
      if k2.min ≠ 60 then k2
      else
        let k3 := { k2 with min := 0, hour := k2.hour + 1 }
        if k3.hour ≠ 24 then k3 else { k3 with hour := 0 }.nextDay

/-- n ticks (R146). -/
def Rtc.advance (k : Rtc) : Nat → Rtc
  | 0 => k
  | n + 1 => k.tick.advance n

/-! ### Translation (R124, R125, R135, R144, R147) -/

/-- The MBC1's ROM bank number before reduction (R135). -/
def Mbc1.romBank (m : Mbc1) : Nat :=
  if m.mode = 0 then (m.bank2 ++ m.bank1).toNat else m.bank1.toNat

/-- The MBC1's RAM bank (R131). -/
def Mbc1.ramBank (m : Mbc1) : Nat := if m.mode = 1 then m.bank2.toNat else 0

/-- Offset in the image of an address in a switchable ROM window (R124). -/
def bankedOffset (bank romBanks : Nat) (a : Word) : Nat :=
  bank % romBanks * 0x4000 + (a.toNat - 0x4000)

/-- translate for a ROM address: the fixed window is bank 0 in every variant (R91, R125, R135, R147). -/
def State.romOffset (s : State) (a : Word) : Nat :=
  if a.toNat < 0x4000 then a.toNat
  else
    match s.mbc with
    | .romOnly => a.toNat
    | .mbc1 m => bankedOffset m.romBank s.cart.romBanks a
    | .mbc3 m => bankedOffset m.romBank.toNat s.cart.romBanks a

/-- Offset in CRAM of an address in the RAM window (R124). -/
def ramOffset (bank ramSize : Nat) (a : Word) : Nat :=
  (bank * 0x2000 + (a.toNat - 0xA000)) % ramSize

/-- What an address of 0xA000 to 0xBFFF reaches now (R94). -/
inductive RamTarget where
  /-- No RAM, or RAM disabled: a read returns RAM_DISABLED_VALUE and a write is discarded. -/
  | disabled
  /-- The byte of CRAM at an offset. -/
  | cram (offset : Nat)
  /-- An RTC register. -/
  | rtc (reg : RtcReg)
deriving DecidableEq, Repr

/-- R125, R131 and R144. -/
def State.ramTarget (s : State) (a : Word) : RamTarget :=
  match s.mbc with
  | .romOnly => .disabled
  | .mbc1 m =>
    if m.ramEnable = false ∨ s.cart.ramSize = 0 then .disabled
    else .cram (ramOffset m.ramBank s.cart.ramSize a)
  | .mbc3 m =>
    if m.ramEnable = false then .disabled
    else
      match m.sel with
      | .ram bank => if s.cart.ramSize = 0 then .disabled else .cram (ramOffset bank.toNat s.cart.ramSize a)
      | .rtc reg => .rtc reg

/-! ### The cartridge's windows -/

/-- A read of a ROM address (R91, R92). -/
def State.romRead (s : State) (a : Word) : Byte := s.cart.rom.read (s.romOffset a)

/-- The latched clock of the controller; all zeros where there is none. -/
def Mbc.latched : Mbc → Rtc
  | .mbc3 m => m.latched
  | _ => Rtc.zero

/-- A read of 0xA000 to 0xBFFF: RTC reads observe the latched copy (R131, R144). -/
def State.ramRead (s : State) (a : Word) : Byte :=
  match s.ramTarget a with
  | .disabled => s.cfg.ramDisabledValue
  | .cram offset => s.cram.read offset
  | .rtc reg => s.mbc.latched.read reg

/-- An RTC write sets the live clock and leaves the latched copy (R144). -/
def Mbc.writeRtc (reg : RtcReg) (v : Byte) : Mbc → Mbc
  | .mbc3 m => .mbc3 { m with live := m.live.write v reg }
  | other => other

/-- A write of v at 0xA000 to 0xBFFF (R131, R144). -/
def State.ramWrite (a : Word) (v : Byte) (s : State) : State :=
  match s.ramTarget a with
  | .disabled => s
  | .cram offset => { s with cram := s.cram.write offset v }
  | .rtc reg => { s with mbc := s.mbc.writeRtc reg v }

/-- The low nibble that enables cartridge RAM (R130, R140). -/
def enablesRam (v : Byte) : Bool := decide (v &&& 0x0F = 0x0A)

/-- The four control windows of 0x0000 to 0x7FFF (R90). -/
inductive ControlWindow where
  /-- 0x0000 to 0x1FFF. -/
  | enable
  /-- 0x2000 to 0x3FFF. -/
  | romBank
  /-- 0x4000 to 0x5FFF. -/
  | ramBank
  /-- 0x6000 to 0x7FFF. -/
  | latch
deriving DecidableEq, Repr

/-- The control window of an address below 0x8000 (R90). -/
def controlWindow (a : Word) : ControlWindow :=
  if a.toNat < 0x2000 then .enable
  else if a.toNat < 0x4000 then .romBank
  else if a.toNat < 0x6000 then .ramBank
  else .latch

/-- MBC1 control write (R130, R132, R133, R134). -/
def Mbc1.control (m : Mbc1) (v : Byte) : ControlWindow → Mbc1
  | .enable => { m with ramEnable := enablesRam v }
  | .romBank =>
    let bank : BitVec 5 := v.setWidth 5
    { m with bank1 := if bank = 0 then 1 else bank }
  | .ramBank => { m with bank2 := v.setWidth 2 }
  | .latch => { m with mode := v.setWidth 1 }

/-- sel's value for a write to 0x4000 to 0x5FFF, none where the write is ignored (R142). -/
def Sel.ofByte (hasRtc : Bool) (v : Byte) : Option Sel :=
  if v.toNat ≤ 0x03 then some (.ram (v.setWidth 2))
  else if hasRtc = false then none
  else if v = 0x08 then some (.rtc .s)
  else if v = 0x09 then some (.rtc .m)
  else if v = 0x0A then some (.rtc .hr)
  else if v = 0x0B then some (.rtc .dl)
  else if v = 0x0C then some (.rtc .dh)
  else none

/-- MBC3 control write (R140, R141, R142, R145). -/
def Mbc3.control (m : Mbc3) (v : Byte) : ControlWindow → Mbc3
  | .enable => { m with ramEnable := enablesRam v }
  | .romBank =>
    let bank : BitVec 7 := v.setWidth 7
    { m with romBank := if bank = 0 then 1 else bank }
  | .ramBank => { m with sel := (Sel.ofByte m.hasRtc v).getD m.sel }
  | .latch =>
    { m with
      latched := if m.hasRtc = true ∧ m.latchPrev = 0x00 ∧ v = 0x01 then m.live else m.latched
      latchPrev := v }

/-- The variant's control decode; the ROM-only variant ignores the write (R93, R125). -/
def Mbc.control (w : ControlWindow) (v : Byte) : Mbc → Mbc
  | .romOnly => .romOnly
  | .mbc1 m => .mbc1 (m.control v w)
  | .mbc3 m => .mbc3 (m.control v w)

/-- A write of v at 0x0000 to 0x7FFF: it changes no byte of ROM (R93). -/
def State.controlWrite (a : Word) (v : Byte) (s : State) : State :=
  { s with mbc := s.mbc.control (controlWindow a) v }

end Sys2Proof.Machine
end

