-- ==== Sys2Proof/Machine/Bus.lean ====
section
/-! DEFINITION. The bus router (20_memory.md section 2): the region of every address, the value a read
returns, what a read does to the state, and what a write does. -/

namespace Sys2Proof.Machine

/-- The regions of the address map (R90). -/
inductive Region where
  | rom | vram | cartRam | wram | mirror | oam | unusable | ifReg | periph | hram | ieReg
deriving DecidableEq, Repr

/-- The region of an address: the tests of R95 and R96 in their order, written once for both. -/
def region (a : Word) : Region :=
  if a.toNat ≤ 0x7FFF then .rom
  else if a.toNat ≤ 0x9FFF then .vram
  else if a.toNat ≤ 0xBFFF then .cartRam
  else if a.toNat ≤ 0xDFFF then .wram
  else if a.toNat ≤ 0xFDFF then .mirror
  else if a.toNat ≤ 0xFE9F then .oam
  else if a.toNat ≤ 0xFEFF then .unusable
  else if a.toNat = 0xFF0F then .ifReg
  else if a.toNat ≤ 0xFF7F then .periph
  else if a.toNat ≤ 0xFFFE then .hram
  else .ieReg

/-- Whether the peripheral oracle serves the address (R100, R103). -/
def State.servedByPeriph (s : State) (a : Word) : Bool :=
  match region a with
  | .vram | .oam => true
  | .periph => decide (a ∈ s.cfg.periphMapped)
  | _ => false

/-! ### Peripherals (R101) -/

/-- The byte a peripheral answers now: the next draw, or the stub's last byte written, which is held as
its difference from OPEN_BUS so that an address never written reads OPEN_BUS. -/
def State.periphValue (s : State) (a : Word) : Byte :=
  match s.cfg.periph with
  | .oracle => Config.periphRead s.draws a
  | .stub => s.stub.read a.toNat ^^^ s.cfg.openBus

/-- One draw has been made, where the peripherals are an oracle. -/
def State.countDraw (s : State) : State :=
  match s.cfg.periph with
  | .oracle => { s with draws := s.draws + 1 }
  | .stub => s

/-- IF <- IF | (PeriphWrite(a, v) & 0x1F) (R96, R100); the stub's mask is 0 (R101). -/
def State.periphWrite (a : Word) (v : Byte) (s : State) : State :=
  match s.cfg.periph with
  | .oracle =>
    { s with ifr := s.ifr ||| (Config.periphWrite s.draws a v).setWidth 5, draws := s.draws + 1 }
  | .stub => { s with stub := s.stub.write a.toNat (v ^^^ s.cfg.openBus) }

/-! ### Interrupt registers (R44, R45) -/

/-- A read of IE or IF: the unused high bits read back as set (R44, R45). -/
def intRegRead (v : BitVec 5) : Byte := 0b111#3 ++ v

/-- A write of IE or IF stores v & 0x1F (R44, R45). -/
def intRegWrite (v : Byte) : BitVec 5 := v.setWidth 5

/-! ### Transactions -/

/-- The value bus_read(a) returns (R95). -/
def State.readVal (s : State) (a : Word) : Byte :=
  match region a with
  | .rom => s.romRead a
  | .vram => s.periphValue a
  | .cartRam => s.ramRead a
  | .wram => s.wram.read (a.toNat - 0xC000)
  | .mirror => s.wram.read (a.toNat - 0xE000)
  | .oam => s.periphValue a
  | .unusable => s.cfg.openBus
  | .ifReg => intRegRead s.ifr
  | .periph => if a ∈ s.cfg.periphMapped then s.periphValue a else s.cfg.openBus
  | .hram => s.hram.read (a.toNat - 0xFF80)
  | .ieReg => intRegRead s.ie

/-- What bus_read(a) does to the state: nothing, but that a read the oracle serves uses up a draw (R85). -/
def State.readEff (a : Word) (s : State) : State :=
  if s.servedByPeriph a then s.countDraw else s

/-- bus_write(a, v) (R96). -/
def State.busWrite (a : Word) (v : Byte) (s : State) : State :=
  match region a with
  | .rom => s.controlWrite a v
  | .vram => s.periphWrite a v
  | .cartRam => s.ramWrite a v
  | .wram => { s with wram := s.wram.write (a.toNat - 0xC000) v }
  | .mirror => { s with wram := s.wram.write (a.toNat - 0xE000) v }
  | .oam => s.periphWrite a v
  | .unusable => s
  | .ifReg => { s with ifr := intRegWrite v }
  | .periph => if a ∈ s.cfg.periphMapped then s.periphWrite a v else s
  | .hram => { s with hram := s.hram.write (a.toNat - 0xFF80) v }
  | .ieReg => { s with ie := intRegWrite v }

/-- MemWrite(a, 2, v): the low byte at a, then the high byte at a + 1, as two transactions (R82). -/
def State.busWrite16 (a : Word) (lo hi : Byte) (s : State) : State :=
  (s.busWrite a lo).busWrite (a + 1) hi

/-- Whether a write at a can change what a read at x returns, whatever the byte (R85, R96): the frame of
busWrite. A control write changes no byte storage but can change which byte the windows show. -/
def State.writeReaches (s : State) (a x : Word) : Bool :=
  match region a with
  | .rom => (region x == .rom && decide (0x4000 ≤ x.toNat)) || region x == .cartRam
  | .vram | .oam => s.servedByPeriph x || region x == .ifReg
  | .periph => decide (a ∈ s.cfg.periphMapped) && (s.servedByPeriph x || region x == .ifReg)
  | .cartRam =>
    match s.ramTarget a with
    | .cram offset => region x == .cartRam && decide (s.ramTarget x = .cram offset)
    | _ => false
  | .wram => decide (x = a) || (region x == .mirror && decide (x.toNat = a.toNat + 0x2000))
  | .mirror => decide (x = a) || (region x == .wram && decide (x.toNat + 0x2000 = a.toNat))
  | .unusable => false
  | .ifReg | .hram | .ieReg => decide (x = a)

end Sys2Proof.Machine
end

