-- ==== Sys2Proof/Machine/Flags.lean ====
section
/-! DEFINITION. The flags, their layout in F, and every flag computation of the spec. Arithmetic is on
integers and is narrowed at the end, as the rules write it (R8, R250). -/

namespace Sys2Proof.Machine

/-- The four flags (R34). -/
structure Flags where
  z : Bool
  n : Bool
  h : Bool
  c : Bool
deriving DecidableEq, Repr

/-- F[7] = Z, F[6] = N, F[5] = H, F[4] = C, F[3:0] = 0 (R35). -/
def Flags.toByte (fl : Flags) : Byte :=
  BitVec.ofBool fl.z ++ BitVec.ofBool fl.n ++ BitVec.ofBool fl.h ++ BitVec.ofBool fl.c ++ 0#4

/-- The flags a byte in F's layout holds. -/
def Flags.ofByte (v : Byte) : Flags where
  z := v.getLsbD 7
  n := v.getLsbD 6
  h := v.getLsbD 5
  c := v.getLsbD 4

/-- The flags now. -/
def State.flags (s : State) : Flags := Flags.ofByte s.f

/-- Write the four flags; F[3:0] becomes 0, as every write to F leaves it (R36). -/
def State.setFlags (fl : Flags) (s : State) : State := { s with f := fl.toByte }

/-- add8 of R250: result and flags. -/
def add8 (a b : Byte) (cin : Bool) : Byte × Flags :=
  let t := a.toNat + b.toNat + cin.toNat
  let res := BitVec.ofNat 8 t
  (res, { z := decide (res = 0), n := false,
          h := decide ((a &&& 0x0F).toNat + (b &&& 0x0F).toNat + cin.toNat > 0x0F),
          c := decide (t > 0xFF) })

/-- sub8 of R250: result and flags. -/
def sub8 (a b : Byte) (cin : Bool) : Byte × Flags :=
  let t : Int := (a.toNat : Int) - (b.toNat : Int) - (cin.toNat : Int)
  let res := BitVec.ofInt 8 t
  (res, { z := decide (res = 0), n := true,
          h := decide (((a &&& 0x0F).toNat : Int) - ((b &&& 0x0F).toNat : Int) - (cin.toNat : Int) < 0),
          c := decide (t < 0) })

/-- AND: Z, N = 0, H = 1, C = 0 (R263). -/
def and8 (a b : Byte) : Byte × Flags :=
  (a &&& b, { z := decide (a &&& b = 0), n := false, h := true, c := false })

/-- XOR: Z, N = 0, H = 0, C = 0 (R266). -/
def xor8 (a b : Byte) : Byte × Flags :=
  (a ^^^ b, { z := decide (a ^^^ b = 0), n := false, h := false, c := false })

/-- OR: Z, N = 0, H = 0, C = 0 (R269). -/
def or8 (a b : Byte) : Byte × Flags :=
  (a ||| b, { z := decide (a ||| b = 0), n := false, h := false, c := false })

/-- What an ALU operation leaves in A, and the flags, from A, the operand and F.C (R251 to R274). CP
computes as SUB and discards the result (R272). -/
def alu8 (op : AluOp) (a src : Byte) (carry : Bool) : Byte × Flags :=
  match op with
  | .add => add8 a src false
  | .adc => add8 a src carry
  | .sub => sub8 a src false
  | .sbc => sub8 a src carry
  | .and => and8 a src
  | .xor => xor8 a src
  | .or  => or8 a src
  | .cp  => (a, (sub8 a src false).2)

/-- INC of a byte: C unchanged (R275). -/
def inc8 (v : Byte) (fl : Flags) : Byte × Flags :=
  let res := v + 1
  (res, { z := decide (res = 0), n := false, h := decide (v &&& 0x0F = 0x0F), c := fl.c })

/-- DEC of a byte: C unchanged (R277). -/
def dec8 (v : Byte) (fl : Flags) : Byte × Flags :=
  let res := v - 1
  (res, { z := decide (res = 0), n := true, h := decide (v &&& 0x0F = 0x00), c := fl.c })

/-- ADD HL,rr: carries out of bits 11 and 15, Z unchanged (R290). -/
def addHL16 (a b : Word) (fl : Flags) : Word × Flags :=
  let t := a.toNat + b.toNat
  (BitVec.ofNat 16 t,
    { z := fl.z, n := false,
      h := decide ((a &&& 0x0FFF).toNat + (b &&& 0x0FFF).toNat > 0x0FFF),
      c := decide (t > 0xFFFF) })

/-- SP plus a signed byte, for LD HL,SP+e and ADD SP,e: H and C come from an unsigned add of the low byte of
SP and the raw byte (R239, R291). -/
def addSpE (sp : Word) (e : Byte) : Word × Flags :=
  (sp + e.signExtend 16,
    { z := false, n := false,
      h := decide ((sp &&& 0x0F).toNat + (e &&& 0x0F).toNat > 0x0F),
      c := decide ((sp &&& 0xFF).toNat + e.toNat > 0xFF) })

/-- DAA (R300), on integers: the N = 0 branch adds, the N = 1 branch subtracts, and the sum is narrowed at
the end. N is unchanged. -/
def daa8 (acc : Byte) (fl : Flags) : Byte × Flags :=
  let a : Int := acc.toNat
  let high := fl.c || decide (acc.toNat > 0x99)
  let low := fl.h || decide ((acc &&& 0x0F).toNat > 0x09)
  let sum : Int :=
    if fl.n then a - (if fl.c then 0x60 else 0) - (if fl.h then 0x06 else 0)
    else a + (if high then 0x60 else 0) + (if low then 0x06 else 0)
  let res := BitVec.ofInt 8 sum
  (res, { z := decide (res = 0), n := fl.n, h := false, c := if fl.n then fl.c else high })

/-- CPL: Z and C unchanged, N = 1, H = 1 (R301). -/
def cpl8 (a : Byte) (fl : Flags) : Byte × Flags := (a ^^^ 0xFF, { fl with n := true, h := true })

/-- CCF: Z unchanged, N = 0, H = 0, C inverted (R302). -/
def ccfFlags (fl : Flags) : Flags := { fl with n := false, h := false, c := !fl.c }

/-- SCF: Z unchanged, N = 0, H = 0, C = 1 (R303). -/
def scfFlags (fl : Flags) : Flags := { fl with n := false, h := false, c := true }

/-- Result and new carry of a rotate or shift, from the value and F.C (R324 to R338). -/
def rot8 (op : RotOp) (v : Byte) (carry : Bool) : Byte × Bool :=
  let bit7 := v.getLsbD 7
  let bit0 := v.getLsbD 0
  let inLow := fun (x : Bool) => (v <<< 1) ||| (BitVec.ofBool x).setWidth 8
  let inHigh := fun (x : Bool) => (v >>> 1) ||| ((BitVec.ofBool x).setWidth 8 <<< 7)
  match op with
  | .rlc  => (inLow bit7, bit7)
  | .rrc  => (inHigh bit0, bit0)
  | .rl   => (inLow carry, bit7)
  | .rr   => (inHigh carry, bit0)
  | .sla  => (v <<< 1, bit7)
  | .sra  => ((v >>> 1) ||| (v &&& 0x80), bit0)
  | .swap => ((v <<< 4) ||| (v >>> 4), false)
  | .srl  => (v >>> 1, bit0)

/-- The CB forms: Z from the result, N = 0, H = 0, C the new carry (R324 to R339). -/
def rotFlags (op : RotOp) (v : Byte) (carry : Bool) : Byte × Flags :=
  let r := rot8 op v carry
  (r.1, { z := decide (r.1 = 0), n := false, h := false, c := r.2 })

/-- The accumulator forms RLCA, RLA, RRCA and RRA: as the CB form, but Z = 0 always (R320 to R323). -/
def rotAFlags (op : RotOp) (v : Byte) (carry : Bool) : Byte × Flags :=
  let r := rot8 op v carry
  (r.1, { z := false, n := false, h := false, c := r.2 })

/-- BIT b: Z is the complement of the bit, N = 0, H = 1, C unchanged (R350). -/
def bitFlags (b : Fin 8) (v : Byte) (fl : Flags) : Flags :=
  { z := !v.getLsbD b.val, n := false, h := true, c := fl.c }

/-- RES b: v & ~(1 << b) (R352). -/
def resBit (b : Fin 8) (v : Byte) : Byte := v &&& ~~~(1#8 <<< b.val)

/-- SET b: v | (1 << b) (R354). -/
def setBit (b : Fin 8) (v : Byte) : Byte := v ||| (1#8 <<< b.val)

end Sys2Proof.Machine
end

