-- ==== Sys2Proof/Machine/Operands.lean ====
section
/-! DEFINITION. The operand forms: registers and pairs (R30, R31, R163 to R165), conditions (R166), the
memory operand (HL) and the high page (R163, R167), and the fetch of an instruction's bytes (R11, R190). -/

namespace Sys2Proof.Machine

/-! ### Registers and pairs -/

/-- R[r] (R9, R163). -/
def State.getR (s : State) : Reg8 → Byte
  | .b => s.b
  | .c => s.c
  | .d => s.d
  | .e => s.e
  | .h => s.h
  | .l => s.l
  | .a => s.a

/-- R[r] <- v (R9, R163). -/
def State.setR (r : Reg8) (v : Byte) (s : State) : State :=
  match r with
  | .b => { s with b := v }
  | .c => { s with c := v }
  | .d => { s with d := v }
  | .e => { s with e := v }
  | .h => { s with h := v }
  | .l => { s with l := v }
  | .a => { s with a := v }

/-- BC = B ++ C (R31). -/
def State.bc (s : State) : Word := ofBytes s.b s.c

/-- DE = D ++ E (R31). -/
def State.de (s : State) : Word := ofBytes s.d s.e

/-- HL = H ++ L (R31). -/
def State.hl (s : State) : Word := ofBytes s.h s.l

/-- HL <- v: H <- v[15:8] and L <- v[7:0] (R31). -/
def State.setHL (v : Word) (s : State) : State := { s with h := hiByte v, l := loByte v }

/-- R[rr] of field rp (R31, R164). -/
def State.getRR (s : State) : Reg16 → Word
  | .bc => s.bc
  | .de => s.de
  | .hl => s.hl
  | .sp => s.sp

/-- R[rr] <- v of field rp (R31, R164). -/
def State.setRR (rr : Reg16) (v : Word) (s : State) : State :=
  match rr with
  | .bc => { s with b := hiByte v, c := loByte v }
  | .de => { s with d := hiByte v, e := loByte v }
  | .hl => s.setHL v
  | .sp => { s with sp := v }

/-- The two bytes of a pair of field rp2, high then low (R31, R165). -/
def State.getStk (s : State) : RegStk → Byte × Byte
  | .bc => (s.b, s.c)
  | .de => (s.d, s.e)
  | .hl => (s.h, s.l)
  | .af => (s.a, s.f)

/-- Write a pair of field rp2; the low half of AF keeps only the flags (R31, R36, R165). -/
def State.setStk (rr : RegStk) (hi lo : Byte) (s : State) : State :=
  match rr with
  | .bc => { s with b := hi, c := lo }
  | .de => { s with d := hi, e := lo }
  | .hl => { s with h := hi, l := lo }
  | .af => { s with a := hi, f := lo &&& 0xF0 }

/-- cond(cc) (R166). -/
def State.cond (s : State) : Cond → Bool
  | .nz => !s.flags.z
  | .z => s.flags.z
  | .nc => !s.flags.c
  | .c => s.flags.c

/-- The high-page address 0xFF00 + n of the LDH forms (R167). -/
def highPage (n : Byte) : Word := 0xFF00 + zext16 n

/-! ### Fetch -/

/-- The state after one Fetch8: the read's effect, and PC one further (R11). -/
def State.fetched (s : State) : State :=
  let s1 := s.readEff s.pc
  { s1 with pc := s1.pc + 1 }

/-- The state after the opcode fetch of R190: in mode HaltBug PC stays and the mode becomes Running. -/
def State.fetchedOpcode (s : State) : State :=
  match s.mode with
  | .haltBug => { s.readEff s.pc with mode := .running }
  | _ => s.fetched

/-- Fetch and decode one instruction (R190): the instruction, and the state in which its rule runs. Operand
bytes are read here, in the order the rules' own Fetch8 and Fetch16 read them, before anything else the
rule does (log entry 9). A reserved byte leaves PC and mode as they were, so its meaning finds PC at the
byte (R405, log entry 8). -/
def State.fetch (s : State) : Instr × State :=
  let op := s.readVal s.pc
  if op ∈ reservedOpcodes then (decodeBytes op 0 0, s.readEff s.pc)
  else
    let s1 := s.fetchedOpcode
    match opLength op with
    | .one => (decodeBytes op 0 0, s1)
    | .two => (decodeBytes op (s1.readVal s1.pc) 0, s1.fetched)
    | .three =>
      let s2 := s1.fetched
      (decodeBytes op (s1.readVal s1.pc) (s2.readVal s2.pc), s2.fetched)

end Sys2Proof.Machine
end

