-- ==== Sys2Proof/Machine/Ops.lean ====
section
/-! DEFINITION. The shared operations: the clock, the stack (R230, R231), the interrupt encoder and taking
an interrupt (R412, R421), recording InvalidOpcode (R405), return from interrupt (R376), the EI commit
(R402), and the wake from Halted (R430). -/

namespace Sys2Proof.Machine

/-! ### Clock -/

/-- A count given in T, in the configured unit (R7: in unit M every count is divided by 4). -/
def cyclesIn (cfg : Config) (t : Nat) : Nat :=
  match cfg.cycleUnit with
  | .t => t
  | .m => t / 4

/-- clock <- clock + n, for a cost of t given in T (R42, R453). -/
def State.tick (t : Nat) (s : State) : State := { s with clock := s.clock + cyclesIn s.cfg t }

/-! ### Stack -/

/-- One byte of a push: SP <- SP - 1, then the bus write at SP (R230). -/
def State.pushByte (v : Byte) (s : State) : State :=
  let s1 := { s with sp := s.sp - 1 }
  s1.busWrite s1.sp v

/-- Push16: the high byte first, at the higher address (R230). -/
def State.push16 (hi lo : Byte) (s : State) : State := (s.pushByte hi).pushByte lo

/-- The state after one byte of a pop: the bus read at SP, then SP <- SP + 1 (R231). -/
def State.popped (s : State) : State :=
  let s1 := s.readEff s.sp
  { s1 with sp := s1.sp + 1 }

/-- The low byte Pop16 reads (R231). -/
def State.popLo (s : State) : Byte := s.readVal s.sp

/-- The high byte Pop16 reads, after the low byte's transaction (R231). -/
def State.popHi (s : State) : Byte := s.popped.readVal s.popped.sp

/-- The state after Pop16 (R231). -/
def State.popped16 (s : State) : State := s.popped.popped

/-! ### Interrupts -/

/-- pending(): the lowest set bit of IE & IF (R412, R413). -/
def State.pending (s : State) : Option (Fin 5) :=
  let m := s.ie &&& s.ifr
  if m.getLsbD 0 then some 0
  else if m.getLsbD 1 then some 1
  else if m.getLsbD 2 then some 2
  else if m.getLsbD 3 then some 3
  else if m.getLsbD 4 then some 4
  else none

/-- The source a step dispatches, if it does: IME = 1 and pending() is not None (R412). -/
def State.takes (s : State) : Option (Fin 5) := if s.ime then s.pending else none

/-- The vector of source k (R420). -/
def vector (k : Fin 5) : Word := 0x0040 + BitVec.ofNat 16 (8 * k.val)

/-- TAKING AN INTERRUPT: dispatch() of R421 for source k, with its cost (R422). IF is cleared before the
push, mode changes from HaltBug only (R423), and only PC is saved, on the stack. -/
def State.dispatch (k : Fin 5) (s : State) : State :=
  let s1 := { s with
    ime := false
    eiPending := false
    ifr := s.ifr &&& ~~~(1#5 <<< k.val)
    mode := if s.mode = Mode.haltBug then Mode.running else s.mode }
  let s2 := s1.push16 (hiByte s.pc) (loByte s.pc)
  ({ s2 with pc := vector k }).tick s.cfg.dispatchCost

/-- RECORDING THE EXCEPTION InvalidOpcode: the fault is set and nothing else changes (R405). The state
given has PC at the reserved byte. The step then rolls back (State.rolledBack). -/
def State.raiseInvalidOpcode (op : Byte) (s : State) : State :=
  { s with fault := some { op := op, pc := s.pc } }

/-- THE ROLLBACK of a step that met a reserved byte (R405, R407, D18): the state before the step, a wake in it
included (log entry 10), with the fault that t records. Only the count of peripheral draws is t's (log entry
11). -/
def State.rolledBack (t before : State) : State := { before with fault := t.fault, draws := t.draws }

/-- PC <- Pop16() (R370). -/
def State.popPC (s : State) : State := { s.popped16 with pc := ofBytes s.popHi s.popLo }

/-- RETURN FROM INTERRUPT: PC <- Pop16(), and IME <- 1 at once (R376, R426). -/
def State.returnFromInterrupt (s : State) : State := { s.popPC with ime := true }

/-- The EI commit at the end of an instruction unit, given ei_pending at its start (R402). -/
def State.commitEi (wasPending : Bool) (s : State) : State :=
  if wasPending = true ∧ s.eiPending = true then { s with ime := true, eiPending := false } else s

/-- The wake from Halted at the start of a step: any request, whatever IE holds (R430). -/
def State.wake (s : State) : State :=
  if s.mode = Mode.halted ∧ s.ifr ≠ 0 then { s with mode := .running } else s

end Sys2Proof.Machine
end

