-- ==== Sys2Proof/Machine/Alu16.lean ====
section
/-! DEFINITION. The meanings of the 16-bit arithmetic instructions (43_alu16.md). -/

namespace Sys2Proof.Machine

/-- ADD HL,rr (R290). -/
def addPairToHL (rr : Reg16) (s : State) : Host.Outcome State Fault Refusal :=
  let r := addHL16 s.hl (s.getRR rr) s.flags
  .next (((s.setHL r.1).setFlags r.2).tick 8)

/-- INC rr: no flag changes (R292). -/
def incrementPair (rr : Reg16) (s : State) : Host.Outcome State Fault Refusal :=
  .next ((s.setRR rr (s.getRR rr + 1)).tick 8)

/-- DEC rr: no flag changes (R293). -/
def decrementPair (rr : Reg16) (s : State) : Host.Outcome State Fault Refusal :=
  .next ((s.setRR rr (s.getRR rr - 1)).tick 8)

/-- INC BC (R292). -/
def execInc_bc (s : State) : Host.Outcome State Fault Refusal :=
  incrementPair .bc s

/-- ADD HL,BC (R290). -/
def execAdd_hl_bc (s : State) : Host.Outcome State Fault Refusal :=
  addPairToHL .bc s

/-- DEC BC (R293). -/
def execDec_bc (s : State) : Host.Outcome State Fault Refusal :=
  decrementPair .bc s

/-- INC DE (R292). -/
def execInc_de (s : State) : Host.Outcome State Fault Refusal :=
  incrementPair .de s

/-- ADD HL,DE (R290). -/
def execAdd_hl_de (s : State) : Host.Outcome State Fault Refusal :=
  addPairToHL .de s

/-- DEC DE (R293). -/
def execDec_de (s : State) : Host.Outcome State Fault Refusal :=
  decrementPair .de s

/-- INC HL (R292). -/
def execInc_hl (s : State) : Host.Outcome State Fault Refusal :=
  incrementPair .hl s

/-- ADD HL,HL (R290). -/
def execAdd_hl_hl (s : State) : Host.Outcome State Fault Refusal :=
  addPairToHL .hl s

/-- DEC HL (R293). -/
def execDec_hl (s : State) : Host.Outcome State Fault Refusal :=
  decrementPair .hl s

/-- INC SP (R292). -/
def execInc_sp (s : State) : Host.Outcome State Fault Refusal :=
  incrementPair .sp s

/-- ADD HL,SP (R290). -/
def execAdd_hl_sp (s : State) : Host.Outcome State Fault Refusal :=
  addPairToHL .sp s

/-- DEC SP (R293). -/
def execDec_sp (s : State) : Host.Outcome State Fault Refusal :=
  decrementPair .sp s

/-- ADD SP,e (R291). -/
def execAdd_sp_e (e : Byte) (s : State) : Host.Outcome State Fault Refusal :=
  let r := addSpE s.sp e
  .next ((({ s with sp := r.1 }).setFlags r.2).tick 16)

end Sys2Proof.Machine
end

