-- ==== Sys2Proof/Machine/Alu8.lean ====
section
/-! DEFINITION. The meanings of the 8-bit arithmetic and logic instructions (42_alu8.md). -/

namespace Sys2Proof.Machine

/-- A and F from an ALU operation on A and a source byte (R251 to R274). -/
def State.applyAlu (op : AluOp) (src : Byte) (s : State) : State :=
  let r := alu8 op s.a src s.flags.c
  (s.setR .a r.1).setFlags r.2

/-- The register form of an ALU operation. -/
def aluOnReg (op : AluOp) (r : Reg8) (s : State) : Host.Outcome State Fault Refusal :=
  .next ((s.applyAlu op (s.getR r)).tick 4)

/-- The (HL) form of an ALU operation. -/
def aluOnAtHL (op : AluOp) (s : State) : Host.Outcome State Fault Refusal :=
  .next (((s.readEff s.hl).applyAlu op (s.readVal s.hl)).tick 8)

/-- The immediate form of an ALU operation. -/
def aluOnImm (op : AluOp) (n : Byte) (s : State) : Host.Outcome State Fault Refusal :=
  .next ((s.applyAlu op n).tick 8)

/-- INC r (R275). -/
def incrementReg (r : Reg8) (s : State) : Host.Outcome State Fault Refusal :=
  let v := inc8 (s.getR r) s.flags
  .next (((s.setR r v.1).setFlags v.2).tick 4)

/-- DEC r (R277). -/
def decrementReg (r : Reg8) (s : State) : Host.Outcome State Fault Refusal :=
  let v := dec8 (s.getR r) s.flags
  .next (((s.setR r v.1).setFlags v.2).tick 4)

/-- The shape of a read-modify-write of (HL): one read, then one write at the HL taken before the read, with
the new flags, at a cost of t T (R84, R191). -/
def State.modifyAtHL (v : Byte) (fl : Flags) (t : Nat) (s : State) : State :=
  (((s.readEff s.hl).busWrite s.hl v).setFlags fl).tick t

/-- INC B (R275). -/
def execInc_b (s : State) : Host.Outcome State Fault Refusal :=
  incrementReg .b s

/-- DEC B (R277). -/
def execDec_b (s : State) : Host.Outcome State Fault Refusal :=
  decrementReg .b s

/-- INC C (R275). -/
def execInc_c (s : State) : Host.Outcome State Fault Refusal :=
  incrementReg .c s

/-- DEC C (R277). -/
def execDec_c (s : State) : Host.Outcome State Fault Refusal :=
  decrementReg .c s

/-- INC D (R275). -/
def execInc_d (s : State) : Host.Outcome State Fault Refusal :=
  incrementReg .d s

/-- DEC D (R277). -/
def execDec_d (s : State) : Host.Outcome State Fault Refusal :=
  decrementReg .d s

/-- INC E (R275). -/
def execInc_e (s : State) : Host.Outcome State Fault Refusal :=
  incrementReg .e s

/-- DEC E (R277). -/
def execDec_e (s : State) : Host.Outcome State Fault Refusal :=
  decrementReg .e s

/-- INC H (R275). -/
def execInc_h (s : State) : Host.Outcome State Fault Refusal :=
  incrementReg .h s

/-- DEC H (R277). -/
def execDec_h (s : State) : Host.Outcome State Fault Refusal :=
  decrementReg .h s

/-- INC L (R275). -/
def execInc_l (s : State) : Host.Outcome State Fault Refusal :=
  incrementReg .l s

/-- DEC L (R277). -/
def execDec_l (s : State) : Host.Outcome State Fault Refusal :=
  decrementReg .l s

/-- INC (HL) (R276). -/
def execInc_atHL (s : State) : Host.Outcome State Fault Refusal :=
  let v := inc8 (s.readVal s.hl) s.flags
  .next (s.modifyAtHL v.1 v.2 12)

/-- DEC (HL) (R278). -/
def execDec_atHL (s : State) : Host.Outcome State Fault Refusal :=
  let v := dec8 (s.readVal s.hl) s.flags
  .next (s.modifyAtHL v.1 v.2 12)

/-- INC A (R275). -/
def execInc_a (s : State) : Host.Outcome State Fault Refusal :=
  incrementReg .a s

/-- DEC A (R277). -/
def execDec_a (s : State) : Host.Outcome State Fault Refusal :=
  decrementReg .a s

/-- ADD A,B (R251). -/
def execAdd_a_b (s : State) : Host.Outcome State Fault Refusal :=
  aluOnReg .add .b s

/-- ADD A,C (R251). -/
def execAdd_a_c (s : State) : Host.Outcome State Fault Refusal :=
  aluOnReg .add .c s

/-- ADD A,D (R251). -/
def execAdd_a_d (s : State) : Host.Outcome State Fault Refusal :=
  aluOnReg .add .d s

/-- ADD A,E (R251). -/
def execAdd_a_e (s : State) : Host.Outcome State Fault Refusal :=
  aluOnReg .add .e s

/-- ADD A,H (R251). -/
def execAdd_a_h (s : State) : Host.Outcome State Fault Refusal :=
  aluOnReg .add .h s

/-- ADD A,L (R251). -/
def execAdd_a_l (s : State) : Host.Outcome State Fault Refusal :=
  aluOnReg .add .l s

/-- ADD A,(HL) (R252). -/
def execAdd_a_atHL (s : State) : Host.Outcome State Fault Refusal :=
  aluOnAtHL .add s

/-- ADD A,A (R251). -/
def execAdd_a_a (s : State) : Host.Outcome State Fault Refusal :=
  aluOnReg .add .a s

/-- ADC A,B (R254). -/
def execAdc_a_b (s : State) : Host.Outcome State Fault Refusal :=
  aluOnReg .adc .b s

/-- ADC A,C (R254). -/
def execAdc_a_c (s : State) : Host.Outcome State Fault Refusal :=
  aluOnReg .adc .c s

/-- ADC A,D (R254). -/
def execAdc_a_d (s : State) : Host.Outcome State Fault Refusal :=
  aluOnReg .adc .d s

/-- ADC A,E (R254). -/
def execAdc_a_e (s : State) : Host.Outcome State Fault Refusal :=
  aluOnReg .adc .e s

/-- ADC A,H (R254). -/
def execAdc_a_h (s : State) : Host.Outcome State Fault Refusal :=
  aluOnReg .adc .h s

/-- ADC A,L (R254). -/
def execAdc_a_l (s : State) : Host.Outcome State Fault Refusal :=
  aluOnReg .adc .l s

/-- ADC A,(HL) (R255). -/
def execAdc_a_atHL (s : State) : Host.Outcome State Fault Refusal :=
  aluOnAtHL .adc s

/-- ADC A,A (R254). -/
def execAdc_a_a (s : State) : Host.Outcome State Fault Refusal :=
  aluOnReg .adc .a s

/-- SUB B (R257). -/
def execSub_b (s : State) : Host.Outcome State Fault Refusal :=
  aluOnReg .sub .b s

/-- SUB C (R257). -/
def execSub_c (s : State) : Host.Outcome State Fault Refusal :=
  aluOnReg .sub .c s

/-- SUB D (R257). -/
def execSub_d (s : State) : Host.Outcome State Fault Refusal :=
  aluOnReg .sub .d s

/-- SUB E (R257). -/
def execSub_e (s : State) : Host.Outcome State Fault Refusal :=
  aluOnReg .sub .e s

/-- SUB H (R257). -/
def execSub_h (s : State) : Host.Outcome State Fault Refusal :=
  aluOnReg .sub .h s

/-- SUB L (R257). -/
def execSub_l (s : State) : Host.Outcome State Fault Refusal :=
  aluOnReg .sub .l s

/-- SUB (HL) (R258). -/
def execSub_atHL (s : State) : Host.Outcome State Fault Refusal :=
  aluOnAtHL .sub s

/-- SUB A (R257). -/
def execSub_a (s : State) : Host.Outcome State Fault Refusal :=
  aluOnReg .sub .a s

/-- SBC A,B (R260). -/
def execSbc_a_b (s : State) : Host.Outcome State Fault Refusal :=
  aluOnReg .sbc .b s

/-- SBC A,C (R260). -/
def execSbc_a_c (s : State) : Host.Outcome State Fault Refusal :=
  aluOnReg .sbc .c s

/-- SBC A,D (R260). -/
def execSbc_a_d (s : State) : Host.Outcome State Fault Refusal :=
  aluOnReg .sbc .d s

/-- SBC A,E (R260). -/
def execSbc_a_e (s : State) : Host.Outcome State Fault Refusal :=
  aluOnReg .sbc .e s

/-- SBC A,H (R260). -/
def execSbc_a_h (s : State) : Host.Outcome State Fault Refusal :=
  aluOnReg .sbc .h s

/-- SBC A,L (R260). -/
def execSbc_a_l (s : State) : Host.Outcome State Fault Refusal :=
  aluOnReg .sbc .l s

/-- SBC A,(HL) (R261). -/
def execSbc_a_atHL (s : State) : Host.Outcome State Fault Refusal :=
  aluOnAtHL .sbc s

/-- SBC A,A (R260). -/
def execSbc_a_a (s : State) : Host.Outcome State Fault Refusal :=
  aluOnReg .sbc .a s

/-- AND B (R263). -/
def execAnd_b (s : State) : Host.Outcome State Fault Refusal :=
  aluOnReg .and .b s

/-- AND C (R263). -/
def execAnd_c (s : State) : Host.Outcome State Fault Refusal :=
  aluOnReg .and .c s

/-- AND D (R263). -/
def execAnd_d (s : State) : Host.Outcome State Fault Refusal :=
  aluOnReg .and .d s

/-- AND E (R263). -/
def execAnd_e (s : State) : Host.Outcome State Fault Refusal :=
  aluOnReg .and .e s

/-- AND H (R263). -/
def execAnd_h (s : State) : Host.Outcome State Fault Refusal :=
  aluOnReg .and .h s

/-- AND L (R263). -/
def execAnd_l (s : State) : Host.Outcome State Fault Refusal :=
  aluOnReg .and .l s

/-- AND (HL) (R264). -/
def execAnd_atHL (s : State) : Host.Outcome State Fault Refusal :=
  aluOnAtHL .and s

/-- AND A (R263). -/
def execAnd_a (s : State) : Host.Outcome State Fault Refusal :=
  aluOnReg .and .a s

/-- XOR B (R266). -/
def execXor_b (s : State) : Host.Outcome State Fault Refusal :=
  aluOnReg .xor .b s

/-- XOR C (R266). -/
def execXor_c (s : State) : Host.Outcome State Fault Refusal :=
  aluOnReg .xor .c s

/-- XOR D (R266). -/
def execXor_d (s : State) : Host.Outcome State Fault Refusal :=
  aluOnReg .xor .d s

/-- XOR E (R266). -/
def execXor_e (s : State) : Host.Outcome State Fault Refusal :=
  aluOnReg .xor .e s

/-- XOR H (R266). -/
def execXor_h (s : State) : Host.Outcome State Fault Refusal :=
  aluOnReg .xor .h s

/-- XOR L (R266). -/
def execXor_l (s : State) : Host.Outcome State Fault Refusal :=
  aluOnReg .xor .l s

/-- XOR (HL) (R267). -/
def execXor_atHL (s : State) : Host.Outcome State Fault Refusal :=
  aluOnAtHL .xor s

/-- XOR A (R266). -/
def execXor_a (s : State) : Host.Outcome State Fault Refusal :=
  aluOnReg .xor .a s

/-- OR B (R269). -/
def execOr_b (s : State) : Host.Outcome State Fault Refusal :=
  aluOnReg .or .b s

/-- OR C (R269). -/
def execOr_c (s : State) : Host.Outcome State Fault Refusal :=
  aluOnReg .or .c s

/-- OR D (R269). -/
def execOr_d (s : State) : Host.Outcome State Fault Refusal :=
  aluOnReg .or .d s

/-- OR E (R269). -/
def execOr_e (s : State) : Host.Outcome State Fault Refusal :=
  aluOnReg .or .e s

/-- OR H (R269). -/
def execOr_h (s : State) : Host.Outcome State Fault Refusal :=
  aluOnReg .or .h s

/-- OR L (R269). -/
def execOr_l (s : State) : Host.Outcome State Fault Refusal :=
  aluOnReg .or .l s

/-- OR (HL) (R270). -/
def execOr_atHL (s : State) : Host.Outcome State Fault Refusal :=
  aluOnAtHL .or s

/-- OR A (R269). -/
def execOr_a (s : State) : Host.Outcome State Fault Refusal :=
  aluOnReg .or .a s

/-- CP B (R272). -/
def execCp_b (s : State) : Host.Outcome State Fault Refusal :=
  aluOnReg .cp .b s

/-- CP C (R272). -/
def execCp_c (s : State) : Host.Outcome State Fault Refusal :=
  aluOnReg .cp .c s

/-- CP D (R272). -/
def execCp_d (s : State) : Host.Outcome State Fault Refusal :=
  aluOnReg .cp .d s

/-- CP E (R272). -/
def execCp_e (s : State) : Host.Outcome State Fault Refusal :=
  aluOnReg .cp .e s

/-- CP H (R272). -/
def execCp_h (s : State) : Host.Outcome State Fault Refusal :=
  aluOnReg .cp .h s

/-- CP L (R272). -/
def execCp_l (s : State) : Host.Outcome State Fault Refusal :=
  aluOnReg .cp .l s

/-- CP (HL) (R273). -/
def execCp_atHL (s : State) : Host.Outcome State Fault Refusal :=
  aluOnAtHL .cp s

/-- CP A (R272). -/
def execCp_a (s : State) : Host.Outcome State Fault Refusal :=
  aluOnReg .cp .a s

/-- ADD A,n (R253). -/
def execAdd_a_n (n : Byte) (s : State) : Host.Outcome State Fault Refusal :=
  aluOnImm .add n s

/-- ADC A,n (R256). -/
def execAdc_a_n (n : Byte) (s : State) : Host.Outcome State Fault Refusal :=
  aluOnImm .adc n s

/-- SUB n (R259). -/
def execSub_n (n : Byte) (s : State) : Host.Outcome State Fault Refusal :=
  aluOnImm .sub n s

/-- SBC A,n (R262). -/
def execSbc_a_n (n : Byte) (s : State) : Host.Outcome State Fault Refusal :=
  aluOnImm .sbc n s

/-- AND n (R265). -/
def execAnd_n (n : Byte) (s : State) : Host.Outcome State Fault Refusal :=
  aluOnImm .and n s

/-- XOR n (R268). -/
def execXor_n (n : Byte) (s : State) : Host.Outcome State Fault Refusal :=
  aluOnImm .xor n s

/-- OR n (R271). -/
def execOr_n (n : Byte) (s : State) : Host.Outcome State Fault Refusal :=
  aluOnImm .or n s

/-- CP n (R274). -/
def execCp_n (n : Byte) (s : State) : Host.Outcome State Fault Refusal :=
  aluOnImm .cp n s

end Sys2Proof.Machine
end

