-- ==== Sys2Proof/Machine/Bit.lean ====
section
/-! DEFINITION. The meanings of the single-bit operations (46_bit.md). -/

namespace Sys2Proof.Machine

/-- BIT b,r (R350). -/
def testBitReg (b : Fin 8) (r : Reg8) (s : State) : Host.Outcome State Fault Refusal :=
  .next ((s.setFlags (bitFlags b (s.getR r) s.flags)).tick 8)

/-- BIT b,(HL): there is no write (R351). -/
def testBitAtHL (b : Fin 8) (s : State) : Host.Outcome State Fault Refusal :=
  .next (((s.readEff s.hl).setFlags (bitFlags b (s.readVal s.hl) s.flags)).tick 12)

/-- RES b,r (R352). -/
def resetBitReg (b : Fin 8) (r : Reg8) (s : State) : Host.Outcome State Fault Refusal :=
  .next ((s.setR r (resBit b (s.getR r))).tick 8)

/-- RES b,(HL): the write happens even when the value does not change (R353). -/
def resetBitAtHL (b : Fin 8) (s : State) : Host.Outcome State Fault Refusal :=
  .next (((s.readEff s.hl).busWrite s.hl (resBit b (s.readVal s.hl))).tick 16)

/-- SET b,r (R354). -/
def setBitReg (b : Fin 8) (r : Reg8) (s : State) : Host.Outcome State Fault Refusal :=
  .next ((s.setR r (setBit b (s.getR r))).tick 8)

/-- SET b,(HL) (R355). -/
def setBitAtHL (b : Fin 8) (s : State) : Host.Outcome State Fault Refusal :=
  .next (((s.readEff s.hl).busWrite s.hl (setBit b (s.readVal s.hl))).tick 16)

/-- BIT 0,B (R350). -/
def execBit_0_b (s : State) : Host.Outcome State Fault Refusal :=
  testBitReg 0 .b s

/-- BIT 0,C (R350). -/
def execBit_0_c (s : State) : Host.Outcome State Fault Refusal :=
  testBitReg 0 .c s

/-- BIT 0,D (R350). -/
def execBit_0_d (s : State) : Host.Outcome State Fault Refusal :=
  testBitReg 0 .d s

/-- BIT 0,E (R350). -/
def execBit_0_e (s : State) : Host.Outcome State Fault Refusal :=
  testBitReg 0 .e s

/-- BIT 0,H (R350). -/
def execBit_0_h (s : State) : Host.Outcome State Fault Refusal :=
  testBitReg 0 .h s

/-- BIT 0,L (R350). -/
def execBit_0_l (s : State) : Host.Outcome State Fault Refusal :=
  testBitReg 0 .l s

/-- BIT 0,(HL) (R351). -/
def execBit_0_atHL (s : State) : Host.Outcome State Fault Refusal :=
  testBitAtHL 0 s

/-- BIT 0,A (R350). -/
def execBit_0_a (s : State) : Host.Outcome State Fault Refusal :=
  testBitReg 0 .a s

/-- BIT 1,B (R350). -/
def execBit_1_b (s : State) : Host.Outcome State Fault Refusal :=
  testBitReg 1 .b s

/-- BIT 1,C (R350). -/
def execBit_1_c (s : State) : Host.Outcome State Fault Refusal :=
  testBitReg 1 .c s

/-- BIT 1,D (R350). -/
def execBit_1_d (s : State) : Host.Outcome State Fault Refusal :=
  testBitReg 1 .d s

/-- BIT 1,E (R350). -/
def execBit_1_e (s : State) : Host.Outcome State Fault Refusal :=
  testBitReg 1 .e s

/-- BIT 1,H (R350). -/
def execBit_1_h (s : State) : Host.Outcome State Fault Refusal :=
  testBitReg 1 .h s

/-- BIT 1,L (R350). -/
def execBit_1_l (s : State) : Host.Outcome State Fault Refusal :=
  testBitReg 1 .l s

/-- BIT 1,(HL) (R351). -/
def execBit_1_atHL (s : State) : Host.Outcome State Fault Refusal :=
  testBitAtHL 1 s

/-- BIT 1,A (R350). -/
def execBit_1_a (s : State) : Host.Outcome State Fault Refusal :=
  testBitReg 1 .a s

/-- BIT 2,B (R350). -/
def execBit_2_b (s : State) : Host.Outcome State Fault Refusal :=
  testBitReg 2 .b s

/-- BIT 2,C (R350). -/
def execBit_2_c (s : State) : Host.Outcome State Fault Refusal :=
  testBitReg 2 .c s

/-- BIT 2,D (R350). -/
def execBit_2_d (s : State) : Host.Outcome State Fault Refusal :=
  testBitReg 2 .d s

/-- BIT 2,E (R350). -/
def execBit_2_e (s : State) : Host.Outcome State Fault Refusal :=
  testBitReg 2 .e s

/-- BIT 2,H (R350). -/
def execBit_2_h (s : State) : Host.Outcome State Fault Refusal :=
  testBitReg 2 .h s

/-- BIT 2,L (R350). -/
def execBit_2_l (s : State) : Host.Outcome State Fault Refusal :=
  testBitReg 2 .l s

/-- BIT 2,(HL) (R351). -/
def execBit_2_atHL (s : State) : Host.Outcome State Fault Refusal :=
  testBitAtHL 2 s

/-- BIT 2,A (R350). -/
def execBit_2_a (s : State) : Host.Outcome State Fault Refusal :=
  testBitReg 2 .a s

/-- BIT 3,B (R350). -/
def execBit_3_b (s : State) : Host.Outcome State Fault Refusal :=
  testBitReg 3 .b s

/-- BIT 3,C (R350). -/
def execBit_3_c (s : State) : Host.Outcome State Fault Refusal :=
  testBitReg 3 .c s

/-- BIT 3,D (R350). -/
def execBit_3_d (s : State) : Host.Outcome State Fault Refusal :=
  testBitReg 3 .d s

/-- BIT 3,E (R350). -/
def execBit_3_e (s : State) : Host.Outcome State Fault Refusal :=
  testBitReg 3 .e s

/-- BIT 3,H (R350). -/
def execBit_3_h (s : State) : Host.Outcome State Fault Refusal :=
  testBitReg 3 .h s

/-- BIT 3,L (R350). -/
def execBit_3_l (s : State) : Host.Outcome State Fault Refusal :=
  testBitReg 3 .l s

/-- BIT 3,(HL) (R351). -/
def execBit_3_atHL (s : State) : Host.Outcome State Fault Refusal :=
  testBitAtHL 3 s

/-- BIT 3,A (R350). -/
def execBit_3_a (s : State) : Host.Outcome State Fault Refusal :=
  testBitReg 3 .a s

/-- BIT 4,B (R350). -/
def execBit_4_b (s : State) : Host.Outcome State Fault Refusal :=
  testBitReg 4 .b s

/-- BIT 4,C (R350). -/
def execBit_4_c (s : State) : Host.Outcome State Fault Refusal :=
  testBitReg 4 .c s

/-- BIT 4,D (R350). -/
def execBit_4_d (s : State) : Host.Outcome State Fault Refusal :=
  testBitReg 4 .d s

/-- BIT 4,E (R350). -/
def execBit_4_e (s : State) : Host.Outcome State Fault Refusal :=
  testBitReg 4 .e s

/-- BIT 4,H (R350). -/
def execBit_4_h (s : State) : Host.Outcome State Fault Refusal :=
  testBitReg 4 .h s

/-- BIT 4,L (R350). -/
def execBit_4_l (s : State) : Host.Outcome State Fault Refusal :=
  testBitReg 4 .l s

/-- BIT 4,(HL) (R351). -/
def execBit_4_atHL (s : State) : Host.Outcome State Fault Refusal :=
  testBitAtHL 4 s

/-- BIT 4,A (R350). -/
def execBit_4_a (s : State) : Host.Outcome State Fault Refusal :=
  testBitReg 4 .a s

/-- BIT 5,B (R350). -/
def execBit_5_b (s : State) : Host.Outcome State Fault Refusal :=
  testBitReg 5 .b s

/-- BIT 5,C (R350). -/
def execBit_5_c (s : State) : Host.Outcome State Fault Refusal :=
  testBitReg 5 .c s

/-- BIT 5,D (R350). -/
def execBit_5_d (s : State) : Host.Outcome State Fault Refusal :=
  testBitReg 5 .d s

/-- BIT 5,E (R350). -/
def execBit_5_e (s : State) : Host.Outcome State Fault Refusal :=
  testBitReg 5 .e s

/-- BIT 5,H (R350). -/
def execBit_5_h (s : State) : Host.Outcome State Fault Refusal :=
  testBitReg 5 .h s

/-- BIT 5,L (R350). -/
def execBit_5_l (s : State) : Host.Outcome State Fault Refusal :=
  testBitReg 5 .l s

/-- BIT 5,(HL) (R351). -/
def execBit_5_atHL (s : State) : Host.Outcome State Fault Refusal :=
  testBitAtHL 5 s

/-- BIT 5,A (R350). -/
def execBit_5_a (s : State) : Host.Outcome State Fault Refusal :=
  testBitReg 5 .a s

/-- BIT 6,B (R350). -/
def execBit_6_b (s : State) : Host.Outcome State Fault Refusal :=
  testBitReg 6 .b s

/-- BIT 6,C (R350). -/
def execBit_6_c (s : State) : Host.Outcome State Fault Refusal :=
  testBitReg 6 .c s

/-- BIT 6,D (R350). -/
def execBit_6_d (s : State) : Host.Outcome State Fault Refusal :=
  testBitReg 6 .d s

/-- BIT 6,E (R350). -/
def execBit_6_e (s : State) : Host.Outcome State Fault Refusal :=
  testBitReg 6 .e s

/-- BIT 6,H (R350). -/
def execBit_6_h (s : State) : Host.Outcome State Fault Refusal :=
  testBitReg 6 .h s

/-- BIT 6,L (R350). -/
def execBit_6_l (s : State) : Host.Outcome State Fault Refusal :=
  testBitReg 6 .l s

/-- BIT 6,(HL) (R351). -/
def execBit_6_atHL (s : State) : Host.Outcome State Fault Refusal :=
  testBitAtHL 6 s

/-- BIT 6,A (R350). -/
def execBit_6_a (s : State) : Host.Outcome State Fault Refusal :=
  testBitReg 6 .a s

/-- BIT 7,B (R350). -/
def execBit_7_b (s : State) : Host.Outcome State Fault Refusal :=
  testBitReg 7 .b s

/-- BIT 7,C (R350). -/
def execBit_7_c (s : State) : Host.Outcome State Fault Refusal :=
  testBitReg 7 .c s

/-- BIT 7,D (R350). -/
def execBit_7_d (s : State) : Host.Outcome State Fault Refusal :=
  testBitReg 7 .d s

/-- BIT 7,E (R350). -/
def execBit_7_e (s : State) : Host.Outcome State Fault Refusal :=
  testBitReg 7 .e s

/-- BIT 7,H (R350). -/
def execBit_7_h (s : State) : Host.Outcome State Fault Refusal :=
  testBitReg 7 .h s

/-- BIT 7,L (R350). -/
def execBit_7_l (s : State) : Host.Outcome State Fault Refusal :=
  testBitReg 7 .l s

/-- BIT 7,(HL) (R351). -/
def execBit_7_atHL (s : State) : Host.Outcome State Fault Refusal :=
  testBitAtHL 7 s

/-- BIT 7,A (R350). -/
def execBit_7_a (s : State) : Host.Outcome State Fault Refusal :=
  testBitReg 7 .a s

/-- RES 0,B (R352). -/
def execRes_0_b (s : State) : Host.Outcome State Fault Refusal :=
  resetBitReg 0 .b s

/-- RES 0,C (R352). -/
def execRes_0_c (s : State) : Host.Outcome State Fault Refusal :=
  resetBitReg 0 .c s

/-- RES 0,D (R352). -/
def execRes_0_d (s : State) : Host.Outcome State Fault Refusal :=
  resetBitReg 0 .d s

/-- RES 0,E (R352). -/
def execRes_0_e (s : State) : Host.Outcome State Fault Refusal :=
  resetBitReg 0 .e s

/-- RES 0,H (R352). -/
def execRes_0_h (s : State) : Host.Outcome State Fault Refusal :=
  resetBitReg 0 .h s

/-- RES 0,L (R352). -/
def execRes_0_l (s : State) : Host.Outcome State Fault Refusal :=
  resetBitReg 0 .l s

/-- RES 0,(HL) (R353). -/
def execRes_0_atHL (s : State) : Host.Outcome State Fault Refusal :=
  resetBitAtHL 0 s

/-- RES 0,A (R352). -/
def execRes_0_a (s : State) : Host.Outcome State Fault Refusal :=
  resetBitReg 0 .a s

/-- RES 1,B (R352). -/
def execRes_1_b (s : State) : Host.Outcome State Fault Refusal :=
  resetBitReg 1 .b s

/-- RES 1,C (R352). -/
def execRes_1_c (s : State) : Host.Outcome State Fault Refusal :=
  resetBitReg 1 .c s

/-- RES 1,D (R352). -/
def execRes_1_d (s : State) : Host.Outcome State Fault Refusal :=
  resetBitReg 1 .d s

/-- RES 1,E (R352). -/
def execRes_1_e (s : State) : Host.Outcome State Fault Refusal :=
  resetBitReg 1 .e s

/-- RES 1,H (R352). -/
def execRes_1_h (s : State) : Host.Outcome State Fault Refusal :=
  resetBitReg 1 .h s

/-- RES 1,L (R352). -/
def execRes_1_l (s : State) : Host.Outcome State Fault Refusal :=
  resetBitReg 1 .l s

/-- RES 1,(HL) (R353). -/
def execRes_1_atHL (s : State) : Host.Outcome State Fault Refusal :=
  resetBitAtHL 1 s

/-- RES 1,A (R352). -/
def execRes_1_a (s : State) : Host.Outcome State Fault Refusal :=
  resetBitReg 1 .a s

/-- RES 2,B (R352). -/
def execRes_2_b (s : State) : Host.Outcome State Fault Refusal :=
  resetBitReg 2 .b s

/-- RES 2,C (R352). -/
def execRes_2_c (s : State) : Host.Outcome State Fault Refusal :=
  resetBitReg 2 .c s

/-- RES 2,D (R352). -/
def execRes_2_d (s : State) : Host.Outcome State Fault Refusal :=
  resetBitReg 2 .d s

/-- RES 2,E (R352). -/
def execRes_2_e (s : State) : Host.Outcome State Fault Refusal :=
  resetBitReg 2 .e s

/-- RES 2,H (R352). -/
def execRes_2_h (s : State) : Host.Outcome State Fault Refusal :=
  resetBitReg 2 .h s

/-- RES 2,L (R352). -/
def execRes_2_l (s : State) : Host.Outcome State Fault Refusal :=
  resetBitReg 2 .l s

/-- RES 2,(HL) (R353). -/
def execRes_2_atHL (s : State) : Host.Outcome State Fault Refusal :=
  resetBitAtHL 2 s

/-- RES 2,A (R352). -/
def execRes_2_a (s : State) : Host.Outcome State Fault Refusal :=
  resetBitReg 2 .a s

/-- RES 3,B (R352). -/
def execRes_3_b (s : State) : Host.Outcome State Fault Refusal :=
  resetBitReg 3 .b s

/-- RES 3,C (R352). -/
def execRes_3_c (s : State) : Host.Outcome State Fault Refusal :=
  resetBitReg 3 .c s

/-- RES 3,D (R352). -/
def execRes_3_d (s : State) : Host.Outcome State Fault Refusal :=
  resetBitReg 3 .d s

/-- RES 3,E (R352). -/
def execRes_3_e (s : State) : Host.Outcome State Fault Refusal :=
  resetBitReg 3 .e s

/-- RES 3,H (R352). -/
def execRes_3_h (s : State) : Host.Outcome State Fault Refusal :=
  resetBitReg 3 .h s

/-- RES 3,L (R352). -/
def execRes_3_l (s : State) : Host.Outcome State Fault Refusal :=
  resetBitReg 3 .l s

/-- RES 3,(HL) (R353). -/
def execRes_3_atHL (s : State) : Host.Outcome State Fault Refusal :=
  resetBitAtHL 3 s

/-- RES 3,A (R352). -/
def execRes_3_a (s : State) : Host.Outcome State Fault Refusal :=
  resetBitReg 3 .a s

/-- RES 4,B (R352). -/
def execRes_4_b (s : State) : Host.Outcome State Fault Refusal :=
  resetBitReg 4 .b s

/-- RES 4,C (R352). -/
def execRes_4_c (s : State) : Host.Outcome State Fault Refusal :=
  resetBitReg 4 .c s

/-- RES 4,D (R352). -/
def execRes_4_d (s : State) : Host.Outcome State Fault Refusal :=
  resetBitReg 4 .d s

/-- RES 4,E (R352). -/
def execRes_4_e (s : State) : Host.Outcome State Fault Refusal :=
  resetBitReg 4 .e s

/-- RES 4,H (R352). -/
def execRes_4_h (s : State) : Host.Outcome State Fault Refusal :=
  resetBitReg 4 .h s

/-- RES 4,L (R352). -/
def execRes_4_l (s : State) : Host.Outcome State Fault Refusal :=
  resetBitReg 4 .l s

/-- RES 4,(HL) (R353). -/
def execRes_4_atHL (s : State) : Host.Outcome State Fault Refusal :=
  resetBitAtHL 4 s

/-- RES 4,A (R352). -/
def execRes_4_a (s : State) : Host.Outcome State Fault Refusal :=
  resetBitReg 4 .a s

/-- RES 5,B (R352). -/
def execRes_5_b (s : State) : Host.Outcome State Fault Refusal :=
  resetBitReg 5 .b s

/-- RES 5,C (R352). -/
def execRes_5_c (s : State) : Host.Outcome State Fault Refusal :=
  resetBitReg 5 .c s

/-- RES 5,D (R352). -/
def execRes_5_d (s : State) : Host.Outcome State Fault Refusal :=
  resetBitReg 5 .d s

/-- RES 5,E (R352). -/
def execRes_5_e (s : State) : Host.Outcome State Fault Refusal :=
  resetBitReg 5 .e s

/-- RES 5,H (R352). -/
def execRes_5_h (s : State) : Host.Outcome State Fault Refusal :=
  resetBitReg 5 .h s

/-- RES 5,L (R352). -/
def execRes_5_l (s : State) : Host.Outcome State Fault Refusal :=
  resetBitReg 5 .l s

/-- RES 5,(HL) (R353). -/
def execRes_5_atHL (s : State) : Host.Outcome State Fault Refusal :=
  resetBitAtHL 5 s

/-- RES 5,A (R352). -/
def execRes_5_a (s : State) : Host.Outcome State Fault Refusal :=
  resetBitReg 5 .a s

/-- RES 6,B (R352). -/
def execRes_6_b (s : State) : Host.Outcome State Fault Refusal :=
  resetBitReg 6 .b s

/-- RES 6,C (R352). -/
def execRes_6_c (s : State) : Host.Outcome State Fault Refusal :=
  resetBitReg 6 .c s

/-- RES 6,D (R352). -/
def execRes_6_d (s : State) : Host.Outcome State Fault Refusal :=
  resetBitReg 6 .d s

/-- RES 6,E (R352). -/
def execRes_6_e (s : State) : Host.Outcome State Fault Refusal :=
  resetBitReg 6 .e s

/-- RES 6,H (R352). -/
def execRes_6_h (s : State) : Host.Outcome State Fault Refusal :=
  resetBitReg 6 .h s

/-- RES 6,L (R352). -/
def execRes_6_l (s : State) : Host.Outcome State Fault Refusal :=
  resetBitReg 6 .l s

/-- RES 6,(HL) (R353). -/
def execRes_6_atHL (s : State) : Host.Outcome State Fault Refusal :=
  resetBitAtHL 6 s

/-- RES 6,A (R352). -/
def execRes_6_a (s : State) : Host.Outcome State Fault Refusal :=
  resetBitReg 6 .a s

/-- RES 7,B (R352). -/
def execRes_7_b (s : State) : Host.Outcome State Fault Refusal :=
  resetBitReg 7 .b s

/-- RES 7,C (R352). -/
def execRes_7_c (s : State) : Host.Outcome State Fault Refusal :=
  resetBitReg 7 .c s

/-- RES 7,D (R352). -/
def execRes_7_d (s : State) : Host.Outcome State Fault Refusal :=
  resetBitReg 7 .d s

/-- RES 7,E (R352). -/
def execRes_7_e (s : State) : Host.Outcome State Fault Refusal :=
  resetBitReg 7 .e s

/-- RES 7,H (R352). -/
def execRes_7_h (s : State) : Host.Outcome State Fault Refusal :=
  resetBitReg 7 .h s

/-- RES 7,L (R352). -/
def execRes_7_l (s : State) : Host.Outcome State Fault Refusal :=
  resetBitReg 7 .l s

/-- RES 7,(HL) (R353). -/
def execRes_7_atHL (s : State) : Host.Outcome State Fault Refusal :=
  resetBitAtHL 7 s

/-- RES 7,A (R352). -/
def execRes_7_a (s : State) : Host.Outcome State Fault Refusal :=
  resetBitReg 7 .a s

/-- SET 0,B (R354). -/
def execSet_0_b (s : State) : Host.Outcome State Fault Refusal :=
  setBitReg 0 .b s

/-- SET 0,C (R354). -/
def execSet_0_c (s : State) : Host.Outcome State Fault Refusal :=
  setBitReg 0 .c s

/-- SET 0,D (R354). -/
def execSet_0_d (s : State) : Host.Outcome State Fault Refusal :=
  setBitReg 0 .d s

/-- SET 0,E (R354). -/
def execSet_0_e (s : State) : Host.Outcome State Fault Refusal :=
  setBitReg 0 .e s

/-- SET 0,H (R354). -/
def execSet_0_h (s : State) : Host.Outcome State Fault Refusal :=
  setBitReg 0 .h s

/-- SET 0,L (R354). -/
def execSet_0_l (s : State) : Host.Outcome State Fault Refusal :=
  setBitReg 0 .l s

/-- SET 0,(HL) (R355). -/
def execSet_0_atHL (s : State) : Host.Outcome State Fault Refusal :=
  setBitAtHL 0 s

/-- SET 0,A (R354). -/
def execSet_0_a (s : State) : Host.Outcome State Fault Refusal :=
  setBitReg 0 .a s

/-- SET 1,B (R354). -/
def execSet_1_b (s : State) : Host.Outcome State Fault Refusal :=
  setBitReg 1 .b s

/-- SET 1,C (R354). -/
def execSet_1_c (s : State) : Host.Outcome State Fault Refusal :=
  setBitReg 1 .c s

/-- SET 1,D (R354). -/
def execSet_1_d (s : State) : Host.Outcome State Fault Refusal :=
  setBitReg 1 .d s

/-- SET 1,E (R354). -/
def execSet_1_e (s : State) : Host.Outcome State Fault Refusal :=
  setBitReg 1 .e s

/-- SET 1,H (R354). -/
def execSet_1_h (s : State) : Host.Outcome State Fault Refusal :=
  setBitReg 1 .h s

/-- SET 1,L (R354). -/
def execSet_1_l (s : State) : Host.Outcome State Fault Refusal :=
  setBitReg 1 .l s

/-- SET 1,(HL) (R355). -/
def execSet_1_atHL (s : State) : Host.Outcome State Fault Refusal :=
  setBitAtHL 1 s

/-- SET 1,A (R354). -/
def execSet_1_a (s : State) : Host.Outcome State Fault Refusal :=
  setBitReg 1 .a s

/-- SET 2,B (R354). -/
def execSet_2_b (s : State) : Host.Outcome State Fault Refusal :=
  setBitReg 2 .b s

/-- SET 2,C (R354). -/
def execSet_2_c (s : State) : Host.Outcome State Fault Refusal :=
  setBitReg 2 .c s

/-- SET 2,D (R354). -/
def execSet_2_d (s : State) : Host.Outcome State Fault Refusal :=
  setBitReg 2 .d s

/-- SET 2,E (R354). -/
def execSet_2_e (s : State) : Host.Outcome State Fault Refusal :=
  setBitReg 2 .e s

/-- SET 2,H (R354). -/
def execSet_2_h (s : State) : Host.Outcome State Fault Refusal :=
  setBitReg 2 .h s

/-- SET 2,L (R354). -/
def execSet_2_l (s : State) : Host.Outcome State Fault Refusal :=
  setBitReg 2 .l s

/-- SET 2,(HL) (R355). -/
def execSet_2_atHL (s : State) : Host.Outcome State Fault Refusal :=
  setBitAtHL 2 s

/-- SET 2,A (R354). -/
def execSet_2_a (s : State) : Host.Outcome State Fault Refusal :=
  setBitReg 2 .a s

/-- SET 3,B (R354). -/
def execSet_3_b (s : State) : Host.Outcome State Fault Refusal :=
  setBitReg 3 .b s

/-- SET 3,C (R354). -/
def execSet_3_c (s : State) : Host.Outcome State Fault Refusal :=
  setBitReg 3 .c s

/-- SET 3,D (R354). -/
def execSet_3_d (s : State) : Host.Outcome State Fault Refusal :=
  setBitReg 3 .d s

/-- SET 3,E (R354). -/
def execSet_3_e (s : State) : Host.Outcome State Fault Refusal :=
  setBitReg 3 .e s

/-- SET 3,H (R354). -/
def execSet_3_h (s : State) : Host.Outcome State Fault Refusal :=
  setBitReg 3 .h s

/-- SET 3,L (R354). -/
def execSet_3_l (s : State) : Host.Outcome State Fault Refusal :=
  setBitReg 3 .l s

/-- SET 3,(HL) (R355). -/
def execSet_3_atHL (s : State) : Host.Outcome State Fault Refusal :=
  setBitAtHL 3 s

/-- SET 3,A (R354). -/
def execSet_3_a (s : State) : Host.Outcome State Fault Refusal :=
  setBitReg 3 .a s

/-- SET 4,B (R354). -/
def execSet_4_b (s : State) : Host.Outcome State Fault Refusal :=
  setBitReg 4 .b s

/-- SET 4,C (R354). -/
def execSet_4_c (s : State) : Host.Outcome State Fault Refusal :=
  setBitReg 4 .c s

/-- SET 4,D (R354). -/
def execSet_4_d (s : State) : Host.Outcome State Fault Refusal :=
  setBitReg 4 .d s

/-- SET 4,E (R354). -/
def execSet_4_e (s : State) : Host.Outcome State Fault Refusal :=
  setBitReg 4 .e s

/-- SET 4,H (R354). -/
def execSet_4_h (s : State) : Host.Outcome State Fault Refusal :=
  setBitReg 4 .h s

/-- SET 4,L (R354). -/
def execSet_4_l (s : State) : Host.Outcome State Fault Refusal :=
  setBitReg 4 .l s

/-- SET 4,(HL) (R355). -/
def execSet_4_atHL (s : State) : Host.Outcome State Fault Refusal :=
  setBitAtHL 4 s

/-- SET 4,A (R354). -/
def execSet_4_a (s : State) : Host.Outcome State Fault Refusal :=
  setBitReg 4 .a s

/-- SET 5,B (R354). -/
def execSet_5_b (s : State) : Host.Outcome State Fault Refusal :=
  setBitReg 5 .b s

/-- SET 5,C (R354). -/
def execSet_5_c (s : State) : Host.Outcome State Fault Refusal :=
  setBitReg 5 .c s

/-- SET 5,D (R354). -/
def execSet_5_d (s : State) : Host.Outcome State Fault Refusal :=
  setBitReg 5 .d s

/-- SET 5,E (R354). -/
def execSet_5_e (s : State) : Host.Outcome State Fault Refusal :=
  setBitReg 5 .e s

/-- SET 5,H (R354). -/
def execSet_5_h (s : State) : Host.Outcome State Fault Refusal :=
  setBitReg 5 .h s

/-- SET 5,L (R354). -/
def execSet_5_l (s : State) : Host.Outcome State Fault Refusal :=
  setBitReg 5 .l s

/-- SET 5,(HL) (R355). -/
def execSet_5_atHL (s : State) : Host.Outcome State Fault Refusal :=
  setBitAtHL 5 s

/-- SET 5,A (R354). -/
def execSet_5_a (s : State) : Host.Outcome State Fault Refusal :=
  setBitReg 5 .a s

/-- SET 6,B (R354). -/
def execSet_6_b (s : State) : Host.Outcome State Fault Refusal :=
  setBitReg 6 .b s

/-- SET 6,C (R354). -/
def execSet_6_c (s : State) : Host.Outcome State Fault Refusal :=
  setBitReg 6 .c s

/-- SET 6,D (R354). -/
def execSet_6_d (s : State) : Host.Outcome State Fault Refusal :=
  setBitReg 6 .d s

/-- SET 6,E (R354). -/
def execSet_6_e (s : State) : Host.Outcome State Fault Refusal :=
  setBitReg 6 .e s

/-- SET 6,H (R354). -/
def execSet_6_h (s : State) : Host.Outcome State Fault Refusal :=
  setBitReg 6 .h s

/-- SET 6,L (R354). -/
def execSet_6_l (s : State) : Host.Outcome State Fault Refusal :=
  setBitReg 6 .l s

/-- SET 6,(HL) (R355). -/
def execSet_6_atHL (s : State) : Host.Outcome State Fault Refusal :=
  setBitAtHL 6 s

/-- SET 6,A (R354). -/
def execSet_6_a (s : State) : Host.Outcome State Fault Refusal :=
  setBitReg 6 .a s

/-- SET 7,B (R354). -/
def execSet_7_b (s : State) : Host.Outcome State Fault Refusal :=
  setBitReg 7 .b s

/-- SET 7,C (R354). -/
def execSet_7_c (s : State) : Host.Outcome State Fault Refusal :=
  setBitReg 7 .c s

/-- SET 7,D (R354). -/
def execSet_7_d (s : State) : Host.Outcome State Fault Refusal :=
  setBitReg 7 .d s

/-- SET 7,E (R354). -/
def execSet_7_e (s : State) : Host.Outcome State Fault Refusal :=
  setBitReg 7 .e s

/-- SET 7,H (R354). -/
def execSet_7_h (s : State) : Host.Outcome State Fault Refusal :=
  setBitReg 7 .h s

/-- SET 7,L (R354). -/
def execSet_7_l (s : State) : Host.Outcome State Fault Refusal :=
  setBitReg 7 .l s

/-- SET 7,(HL) (R355). -/
def execSet_7_atHL (s : State) : Host.Outcome State Fault Refusal :=
  setBitAtHL 7 s

/-- SET 7,A (R354). -/
def execSet_7_a (s : State) : Host.Outcome State Fault Refusal :=
  setBitReg 7 .a s

end Sys2Proof.Machine
end

