-- ==== Sys2Proof/Machine/Control.lean ====
section
/-! DEFINITION. The meanings of jumps, calls, returns and restarts (47_control.md). PC already points past the whole instruction. -/

namespace Sys2Proof.Machine

/-- JP cc,nn: 16 taken, 12 not taken (R361). -/
def jumpIf (cc : Cond) (nn : Word) (s : State) : Host.Outcome State Fault Refusal :=
  if s.cond cc then .next (({ s with pc := nn }).tick 16) else .next (s.tick 12)

/-- PC <- PC + sext_16(e) (R363). -/
def State.jumpRelative (e : Byte) (s : State) : State := { s with pc := s.pc + sext16 e }

/-- JR cc,e: 12 taken, 8 not taken (R364). -/
def jumpRelativeIf (cc : Cond) (e : Byte) (s : State) : Host.Outcome State Fault Refusal :=
  if s.cond cc then .next ((s.jumpRelative e).tick 12) else .next (s.tick 8)

/-- Push16(PC); PC <- target (R365, R377). -/
def State.callTo (target : Word) (s : State) : State :=
  { s.push16 (hiByte s.pc) (loByte s.pc) with pc := target }

/-- CALL cc,nn: 24 taken, 12 not taken (R366). -/
def callIf (cc : Cond) (nn : Word) (s : State) : Host.Outcome State Fault Refusal :=
  if s.cond cc then .next ((s.callTo nn).tick 24) else .next (s.tick 12)

/-- RET cc: 20 taken, 8 not taken (R371). -/
def returnIf (cc : Cond) (s : State) : Host.Outcome State Fault Refusal :=
  if s.cond cc then .next (s.popPC.tick 20) else .next (s.tick 8)

/-- RST t: the target is 8 * t (R377). -/
def restart (t : Fin 8) (s : State) : Host.Outcome State Fault Refusal :=
  .next ((s.callTo (BitVec.ofNat 16 (8 * t.val))).tick 16)

/-- JR e (R363). -/
def execJr_e (e : Byte) (s : State) : Host.Outcome State Fault Refusal :=
  .next ((s.jumpRelative e).tick 12)

/-- JR NZ,e (R364). -/
def execJr_nz_e (e : Byte) (s : State) : Host.Outcome State Fault Refusal :=
  jumpRelativeIf .nz e s

/-- JR Z,e (R364). -/
def execJr_z_e (e : Byte) (s : State) : Host.Outcome State Fault Refusal :=
  jumpRelativeIf .z e s

/-- JR NC,e (R364). -/
def execJr_nc_e (e : Byte) (s : State) : Host.Outcome State Fault Refusal :=
  jumpRelativeIf .nc e s

/-- JR C,e (R364). -/
def execJr_c_e (e : Byte) (s : State) : Host.Outcome State Fault Refusal :=
  jumpRelativeIf .c e s

/-- RET NZ (R371). -/
def execRet_nz (s : State) : Host.Outcome State Fault Refusal :=
  returnIf .nz s

/-- JP NZ,nn (R361). -/
def execJp_nz_nn (nn : Word) (s : State) : Host.Outcome State Fault Refusal :=
  jumpIf .nz nn s

/-- JP nn (R360). -/
def execJp_nn (nn : Word) (s : State) : Host.Outcome State Fault Refusal :=
  .next (({ s with pc := nn }).tick 16)

/-- CALL NZ,nn (R366). -/
def execCall_nz_nn (nn : Word) (s : State) : Host.Outcome State Fault Refusal :=
  callIf .nz nn s

/-- RST 0x00 (R377). -/
def execRst_0x00 (s : State) : Host.Outcome State Fault Refusal :=
  restart 0 s

/-- RET Z (R371). -/
def execRet_z (s : State) : Host.Outcome State Fault Refusal :=
  returnIf .z s

/-- RET (R370). -/
def execRet (s : State) : Host.Outcome State Fault Refusal :=
  .next (s.popPC.tick 16)

/-- JP Z,nn (R361). -/
def execJp_z_nn (nn : Word) (s : State) : Host.Outcome State Fault Refusal :=
  jumpIf .z nn s

/-- CALL Z,nn (R366). -/
def execCall_z_nn (nn : Word) (s : State) : Host.Outcome State Fault Refusal :=
  callIf .z nn s

/-- CALL nn (R365). -/
def execCall_nn (nn : Word) (s : State) : Host.Outcome State Fault Refusal :=
  .next ((s.callTo nn).tick 24)

/-- RST 0x08 (R377). -/
def execRst_0x08 (s : State) : Host.Outcome State Fault Refusal :=
  restart 1 s

/-- RET NC (R371). -/
def execRet_nc (s : State) : Host.Outcome State Fault Refusal :=
  returnIf .nc s

/-- JP NC,nn (R361). -/
def execJp_nc_nn (nn : Word) (s : State) : Host.Outcome State Fault Refusal :=
  jumpIf .nc nn s

/-- CALL NC,nn (R366). -/
def execCall_nc_nn (nn : Word) (s : State) : Host.Outcome State Fault Refusal :=
  callIf .nc nn s

/-- RST 0x10 (R377). -/
def execRst_0x10 (s : State) : Host.Outcome State Fault Refusal :=
  restart 2 s

/-- RET C (R371). -/
def execRet_c (s : State) : Host.Outcome State Fault Refusal :=
  returnIf .c s

/-- RETI (R376). -/
def execReti (s : State) : Host.Outcome State Fault Refusal :=
  .next (s.returnFromInterrupt.tick 16)

/-- JP C,nn (R361). -/
def execJp_c_nn (nn : Word) (s : State) : Host.Outcome State Fault Refusal :=
  jumpIf .c nn s

/-- CALL C,nn (R366). -/
def execCall_c_nn (nn : Word) (s : State) : Host.Outcome State Fault Refusal :=
  callIf .c nn s

/-- RST 0x18 (R377). -/
def execRst_0x18 (s : State) : Host.Outcome State Fault Refusal :=
  restart 3 s

/-- RST 0x20 (R377). -/
def execRst_0x20 (s : State) : Host.Outcome State Fault Refusal :=
  restart 4 s

/-- JP HL (R362). -/
def execJp_hl (s : State) : Host.Outcome State Fault Refusal :=
  .next (({ s with pc := s.hl }).tick 4)

/-- RST 0x28 (R377). -/
def execRst_0x28 (s : State) : Host.Outcome State Fault Refusal :=
  restart 5 s

/-- RST 0x30 (R377). -/
def execRst_0x30 (s : State) : Host.Outcome State Fault Refusal :=
  restart 6 s

/-- RST 0x38 (R377). -/
def execRst_0x38 (s : State) : Host.Outcome State Fault Refusal :=
  restart 7 s

end Sys2Proof.Machine
end

