-- ==== Sys2Proof/Machine/Load16.lean ====
section
/-! DEFINITION. The meanings of the 16-bit loads and the stack instructions (41_load16.md). -/

namespace Sys2Proof.Machine

/-- LD rr,nn (R232). -/
def loadPairImm (rr : Reg16) (nn : Word) (s : State) : Host.Outcome State Fault Refusal :=
  .next ((s.setRR rr nn).tick 12)

/-- PUSH rr (R235, R236). -/
def pushPair (rr : RegStk) (s : State) : Host.Outcome State Fault Refusal :=
  .next ((s.push16 (s.getStk rr).1 (s.getStk rr).2).tick 16)

/-- POP rr (R237, R238). -/
def popPair (rr : RegStk) (s : State) : Host.Outcome State Fault Refusal :=
  .next ((s.popped16.setStk rr s.popHi s.popLo).tick 12)

/-- LD BC,nn (R232). -/
def execLd_bc_nn (nn : Word) (s : State) : Host.Outcome State Fault Refusal :=
  loadPairImm .bc nn s

/-- LD (nn),SP (R233). -/
def execLd_atNN_sp (nn : Word) (s : State) : Host.Outcome State Fault Refusal :=
  .next ((s.busWrite16 nn (loByte s.sp) (hiByte s.sp)).tick 20)

/-- LD DE,nn (R232). -/
def execLd_de_nn (nn : Word) (s : State) : Host.Outcome State Fault Refusal :=
  loadPairImm .de nn s

/-- LD HL,nn (R232). -/
def execLd_hl_nn (nn : Word) (s : State) : Host.Outcome State Fault Refusal :=
  loadPairImm .hl nn s

/-- LD SP,nn (R232). -/
def execLd_sp_nn (nn : Word) (s : State) : Host.Outcome State Fault Refusal :=
  loadPairImm .sp nn s

/-- POP BC (R238). -/
def execPop_bc (s : State) : Host.Outcome State Fault Refusal :=
  popPair .bc s

/-- PUSH BC (R235). -/
def execPush_bc (s : State) : Host.Outcome State Fault Refusal :=
  pushPair .bc s

/-- POP DE (R238). -/
def execPop_de (s : State) : Host.Outcome State Fault Refusal :=
  popPair .de s

/-- PUSH DE (R235). -/
def execPush_de (s : State) : Host.Outcome State Fault Refusal :=
  pushPair .de s

/-- POP HL (R238). -/
def execPop_hl (s : State) : Host.Outcome State Fault Refusal :=
  popPair .hl s

/-- PUSH HL (R235). -/
def execPush_hl (s : State) : Host.Outcome State Fault Refusal :=
  pushPair .hl s

/-- POP AF (R237). -/
def execPop_af (s : State) : Host.Outcome State Fault Refusal :=
  popPair .af s

/-- PUSH AF (R236). -/
def execPush_af (s : State) : Host.Outcome State Fault Refusal :=
  pushPair .af s

/-- LD HL,SP+e (R239). -/
def execLd_hl_spPlusE (e : Byte) (s : State) : Host.Outcome State Fault Refusal :=
  let r := addSpE s.sp e
  .next (((s.setHL r.1).setFlags r.2).tick 12)

/-- LD SP,HL (R234). -/
def execLd_sp_hl (s : State) : Host.Outcome State Fault Refusal :=
  .next (({ s with sp := s.hl }).tick 8)

end Sys2Proof.Machine
end

