-- ==== Sys2Proof/Machine/Load8.lean ====
section
/-! DEFINITION. The meanings of the 8-bit loads (40_load8.md). Every operand byte was read by the fetch, so a meaning starts after it. -/

namespace Sys2Proof.Machine

/-- LD r,r' (R200). -/
def loadRegReg (dst r : Reg8) (s : State) : Host.Outcome State Fault Refusal :=
  .next ((s.setR dst (s.getR r)).tick 4)

/-- LD r,n (R201). -/
def loadRegImm (dst : Reg8) (n : Byte) (s : State) : Host.Outcome State Fault Refusal :=
  .next ((s.setR dst n).tick 8)

/-- LD r,(rr): the address is taken before the write (R202, R205, R206). -/
def loadRegAt (dst : Reg8) (addr : Word) (s : State) : Host.Outcome State Fault Refusal :=
  .next (((s.readEff addr).setR dst (s.readVal addr)).tick 8)

/-- LD (rr),r (R203, R207, R208). -/
def storeRegAt (addr : Word) (r : Reg8) (s : State) : Host.Outcome State Fault Refusal :=
  .next ((s.busWrite addr (s.getR r)).tick 8)

/-- LD A,(addr) at a cost of t T (R209, R211, R213). -/
def loadAccFrom (addr : Word) (t : Nat) (s : State) : Host.Outcome State Fault Refusal :=
  .next (((s.readEff addr).setR .a (s.readVal addr)).tick t)

/-- LD (addr),A at a cost of t T (R210, R212, R214). -/
def storeAccTo (addr : Word) (t : Nat) (s : State) : Host.Outcome State Fault Refusal :=
  .next ((s.busWrite addr s.a).tick t)

/-- LD A,(HL+) and LD A,(HL-): A from the old HL, then HL moves by step (R215, R216). -/
def loadAccStepping (step : Word) (s : State) : Host.Outcome State Fault Refusal :=
  .next ((((s.readEff s.hl).setR .a (s.readVal s.hl)).setHL (s.hl + step)).tick 8)

/-- LD (HL+),A and LD (HL-),A: the store at the old HL, then HL moves by step (R217, R218). -/
def storeAccStepping (step : Word) (s : State) : Host.Outcome State Fault Refusal :=
  .next (((s.busWrite s.hl s.a).setHL (s.hl + step)).tick 8)

/-- LD (BC),A (R207). -/
def execLd_atBC_a (s : State) : Host.Outcome State Fault Refusal :=
  storeRegAt s.bc .a s

/-- LD B,n (R201). -/
def execLd_b_n (n : Byte) (s : State) : Host.Outcome State Fault Refusal :=
  loadRegImm .b n s

/-- LD A,(BC) (R205). -/
def execLd_a_atBC (s : State) : Host.Outcome State Fault Refusal :=
  loadRegAt .a s.bc s

/-- LD C,n (R201). -/
def execLd_c_n (n : Byte) (s : State) : Host.Outcome State Fault Refusal :=
  loadRegImm .c n s

/-- LD (DE),A (R208). -/
def execLd_atDE_a (s : State) : Host.Outcome State Fault Refusal :=
  storeRegAt s.de .a s

/-- LD D,n (R201). -/
def execLd_d_n (n : Byte) (s : State) : Host.Outcome State Fault Refusal :=
  loadRegImm .d n s

/-- LD A,(DE) (R206). -/
def execLd_a_atDE (s : State) : Host.Outcome State Fault Refusal :=
  loadRegAt .a s.de s

/-- LD E,n (R201). -/
def execLd_e_n (n : Byte) (s : State) : Host.Outcome State Fault Refusal :=
  loadRegImm .e n s

/-- LD (HL+),A (R217). -/
def execLd_atHLinc_a (s : State) : Host.Outcome State Fault Refusal :=
  storeAccStepping 1 s

/-- LD H,n (R201). -/
def execLd_h_n (n : Byte) (s : State) : Host.Outcome State Fault Refusal :=
  loadRegImm .h n s

/-- LD A,(HL+) (R215). -/
def execLd_a_atHLinc (s : State) : Host.Outcome State Fault Refusal :=
  loadAccStepping 1 s

/-- LD L,n (R201). -/
def execLd_l_n (n : Byte) (s : State) : Host.Outcome State Fault Refusal :=
  loadRegImm .l n s

/-- LD (HL-),A (R218). -/
def execLd_atHLdec_a (s : State) : Host.Outcome State Fault Refusal :=
  storeAccStepping (-1) s

/-- LD (HL),n (R204). -/
def execLd_atHL_n (n : Byte) (s : State) : Host.Outcome State Fault Refusal :=
  .next ((s.busWrite s.hl n).tick 12)

/-- LD A,(HL-) (R216). -/
def execLd_a_atHLdec (s : State) : Host.Outcome State Fault Refusal :=
  loadAccStepping (-1) s

/-- LD A,n (R201). -/
def execLd_a_n (n : Byte) (s : State) : Host.Outcome State Fault Refusal :=
  loadRegImm .a n s

/-- LD B,B (R200). -/
def execLd_b_b (s : State) : Host.Outcome State Fault Refusal :=
  loadRegReg .b .b s

/-- LD B,C (R200). -/
def execLd_b_c (s : State) : Host.Outcome State Fault Refusal :=
  loadRegReg .b .c s

/-- LD B,D (R200). -/
def execLd_b_d (s : State) : Host.Outcome State Fault Refusal :=
  loadRegReg .b .d s

/-- LD B,E (R200). -/
def execLd_b_e (s : State) : Host.Outcome State Fault Refusal :=
  loadRegReg .b .e s

/-- LD B,H (R200). -/
def execLd_b_h (s : State) : Host.Outcome State Fault Refusal :=
  loadRegReg .b .h s

/-- LD B,L (R200). -/
def execLd_b_l (s : State) : Host.Outcome State Fault Refusal :=
  loadRegReg .b .l s

/-- LD B,(HL) (R202). -/
def execLd_b_atHL (s : State) : Host.Outcome State Fault Refusal :=
  loadRegAt .b s.hl s

/-- LD B,A (R200). -/
def execLd_b_a (s : State) : Host.Outcome State Fault Refusal :=
  loadRegReg .b .a s

/-- LD C,B (R200). -/
def execLd_c_b (s : State) : Host.Outcome State Fault Refusal :=
  loadRegReg .c .b s

/-- LD C,C (R200). -/
def execLd_c_c (s : State) : Host.Outcome State Fault Refusal :=
  loadRegReg .c .c s

/-- LD C,D (R200). -/
def execLd_c_d (s : State) : Host.Outcome State Fault Refusal :=
  loadRegReg .c .d s

/-- LD C,E (R200). -/
def execLd_c_e (s : State) : Host.Outcome State Fault Refusal :=
  loadRegReg .c .e s

/-- LD C,H (R200). -/
def execLd_c_h (s : State) : Host.Outcome State Fault Refusal :=
  loadRegReg .c .h s

/-- LD C,L (R200). -/
def execLd_c_l (s : State) : Host.Outcome State Fault Refusal :=
  loadRegReg .c .l s

/-- LD C,(HL) (R202). -/
def execLd_c_atHL (s : State) : Host.Outcome State Fault Refusal :=
  loadRegAt .c s.hl s

/-- LD C,A (R200). -/
def execLd_c_a (s : State) : Host.Outcome State Fault Refusal :=
  loadRegReg .c .a s

/-- LD D,B (R200). -/
def execLd_d_b (s : State) : Host.Outcome State Fault Refusal :=
  loadRegReg .d .b s

/-- LD D,C (R200). -/
def execLd_d_c (s : State) : Host.Outcome State Fault Refusal :=
  loadRegReg .d .c s

/-- LD D,D (R200). -/
def execLd_d_d (s : State) : Host.Outcome State Fault Refusal :=
  loadRegReg .d .d s

/-- LD D,E (R200). -/
def execLd_d_e (s : State) : Host.Outcome State Fault Refusal :=
  loadRegReg .d .e s

/-- LD D,H (R200). -/
def execLd_d_h (s : State) : Host.Outcome State Fault Refusal :=
  loadRegReg .d .h s

/-- LD D,L (R200). -/
def execLd_d_l (s : State) : Host.Outcome State Fault Refusal :=
  loadRegReg .d .l s

/-- LD D,(HL) (R202). -/
def execLd_d_atHL (s : State) : Host.Outcome State Fault Refusal :=
  loadRegAt .d s.hl s

/-- LD D,A (R200). -/
def execLd_d_a (s : State) : Host.Outcome State Fault Refusal :=
  loadRegReg .d .a s

/-- LD E,B (R200). -/
def execLd_e_b (s : State) : Host.Outcome State Fault Refusal :=
  loadRegReg .e .b s

/-- LD E,C (R200). -/
def execLd_e_c (s : State) : Host.Outcome State Fault Refusal :=
  loadRegReg .e .c s

/-- LD E,D (R200). -/
def execLd_e_d (s : State) : Host.Outcome State Fault Refusal :=
  loadRegReg .e .d s

/-- LD E,E (R200). -/
def execLd_e_e (s : State) : Host.Outcome State Fault Refusal :=
  loadRegReg .e .e s

/-- LD E,H (R200). -/
def execLd_e_h (s : State) : Host.Outcome State Fault Refusal :=
  loadRegReg .e .h s

/-- LD E,L (R200). -/
def execLd_e_l (s : State) : Host.Outcome State Fault Refusal :=
  loadRegReg .e .l s

/-- LD E,(HL) (R202). -/
def execLd_e_atHL (s : State) : Host.Outcome State Fault Refusal :=
  loadRegAt .e s.hl s

/-- LD E,A (R200). -/
def execLd_e_a (s : State) : Host.Outcome State Fault Refusal :=
  loadRegReg .e .a s

/-- LD H,B (R200). -/
def execLd_h_b (s : State) : Host.Outcome State Fault Refusal :=
  loadRegReg .h .b s

/-- LD H,C (R200). -/
def execLd_h_c (s : State) : Host.Outcome State Fault Refusal :=
  loadRegReg .h .c s

/-- LD H,D (R200). -/
def execLd_h_d (s : State) : Host.Outcome State Fault Refusal :=
  loadRegReg .h .d s

/-- LD H,E (R200). -/
def execLd_h_e (s : State) : Host.Outcome State Fault Refusal :=
  loadRegReg .h .e s

/-- LD H,H (R200). -/
def execLd_h_h (s : State) : Host.Outcome State Fault Refusal :=
  loadRegReg .h .h s

/-- LD H,L (R200). -/
def execLd_h_l (s : State) : Host.Outcome State Fault Refusal :=
  loadRegReg .h .l s

/-- LD H,(HL) (R202). -/
def execLd_h_atHL (s : State) : Host.Outcome State Fault Refusal :=
  loadRegAt .h s.hl s

/-- LD H,A (R200). -/
def execLd_h_a (s : State) : Host.Outcome State Fault Refusal :=
  loadRegReg .h .a s

/-- LD L,B (R200). -/
def execLd_l_b (s : State) : Host.Outcome State Fault Refusal :=
  loadRegReg .l .b s

/-- LD L,C (R200). -/
def execLd_l_c (s : State) : Host.Outcome State Fault Refusal :=
  loadRegReg .l .c s

/-- LD L,D (R200). -/
def execLd_l_d (s : State) : Host.Outcome State Fault Refusal :=
  loadRegReg .l .d s

/-- LD L,E (R200). -/
def execLd_l_e (s : State) : Host.Outcome State Fault Refusal :=
  loadRegReg .l .e s

/-- LD L,H (R200). -/
def execLd_l_h (s : State) : Host.Outcome State Fault Refusal :=
  loadRegReg .l .h s

/-- LD L,L (R200). -/
def execLd_l_l (s : State) : Host.Outcome State Fault Refusal :=
  loadRegReg .l .l s

/-- LD L,(HL) (R202). -/
def execLd_l_atHL (s : State) : Host.Outcome State Fault Refusal :=
  loadRegAt .l s.hl s

/-- LD L,A (R200). -/
def execLd_l_a (s : State) : Host.Outcome State Fault Refusal :=
  loadRegReg .l .a s

/-- LD (HL),B (R203). -/
def execLd_atHL_b (s : State) : Host.Outcome State Fault Refusal :=
  storeRegAt s.hl .b s

/-- LD (HL),C (R203). -/
def execLd_atHL_c (s : State) : Host.Outcome State Fault Refusal :=
  storeRegAt s.hl .c s

/-- LD (HL),D (R203). -/
def execLd_atHL_d (s : State) : Host.Outcome State Fault Refusal :=
  storeRegAt s.hl .d s

/-- LD (HL),E (R203). -/
def execLd_atHL_e (s : State) : Host.Outcome State Fault Refusal :=
  storeRegAt s.hl .e s

/-- LD (HL),H (R203). -/
def execLd_atHL_h (s : State) : Host.Outcome State Fault Refusal :=
  storeRegAt s.hl .h s

/-- LD (HL),L (R203). -/
def execLd_atHL_l (s : State) : Host.Outcome State Fault Refusal :=
  storeRegAt s.hl .l s

/-- LD (HL),A (R203). -/
def execLd_atHL_a (s : State) : Host.Outcome State Fault Refusal :=
  storeRegAt s.hl .a s

/-- LD A,B (R200). -/
def execLd_a_b (s : State) : Host.Outcome State Fault Refusal :=
  loadRegReg .a .b s

/-- LD A,C (R200). -/
def execLd_a_c (s : State) : Host.Outcome State Fault Refusal :=
  loadRegReg .a .c s

/-- LD A,D (R200). -/
def execLd_a_d (s : State) : Host.Outcome State Fault Refusal :=
  loadRegReg .a .d s

/-- LD A,E (R200). -/
def execLd_a_e (s : State) : Host.Outcome State Fault Refusal :=
  loadRegReg .a .e s

/-- LD A,H (R200). -/
def execLd_a_h (s : State) : Host.Outcome State Fault Refusal :=
  loadRegReg .a .h s

/-- LD A,L (R200). -/
def execLd_a_l (s : State) : Host.Outcome State Fault Refusal :=
  loadRegReg .a .l s

/-- LD A,(HL) (R202). -/
def execLd_a_atHL (s : State) : Host.Outcome State Fault Refusal :=
  loadRegAt .a s.hl s

/-- LD A,A (R200). -/
def execLd_a_a (s : State) : Host.Outcome State Fault Refusal :=
  loadRegReg .a .a s

/-- LDH (n),A (R214). -/
def execLdh_atN_a (n : Byte) (s : State) : Host.Outcome State Fault Refusal :=
  storeAccTo (highPage n) 12 s

/-- LDH (C),A (R212). -/
def execLdh_atC_a (s : State) : Host.Outcome State Fault Refusal :=
  storeAccTo (highPage s.c) 8 s

/-- LD (nn),A (R210). -/
def execLd_atNN_a (nn : Word) (s : State) : Host.Outcome State Fault Refusal :=
  storeAccTo nn 16 s

/-- LDH A,(n) (R213). -/
def execLdh_a_atN (n : Byte) (s : State) : Host.Outcome State Fault Refusal :=
  loadAccFrom (highPage n) 12 s

/-- LDH A,(C) (R211). -/
def execLdh_a_atC (s : State) : Host.Outcome State Fault Refusal :=
  loadAccFrom (highPage s.c) 8 s

/-- LD A,(nn) (R209). -/
def execLd_a_atNN (nn : Word) (s : State) : Host.Outcome State Fault Refusal :=
  loadAccFrom nn 16 s

end Sys2Proof.Machine
end

