-- ==== Sys2Proof/Machine/Misc.lean ====
section
/-! DEFINITION. The meanings of accumulator adjust, carry control and CPU control (44_misc.md), and the reserved bytes (30_encoding.md R173). -/

namespace Sys2Proof.Machine

/-- The mode HALT enters: IME and the requests are those of its own execution (R305). -/
def State.haltMode (s : State) : Mode :=
  if s.ime = false ∧ s.ie &&& s.ifr ≠ 0 then Mode.haltBug else Mode.halted

/-- NOP (R304). -/
def execNop (s : State) : Host.Outcome State Fault Refusal :=
  .next (s.tick 4)

/-- STOP (R306). -/
def execStop (_n : Byte) (s : State) : Host.Outcome State Fault Refusal :=
  .next (({ s with mode := .stopped }).tick 4)

/-- DAA (R300). -/
def execDaa (s : State) : Host.Outcome State Fault Refusal :=
  let r := daa8 s.a s.flags
  .next (((s.setR .a r.1).setFlags r.2).tick 4)

/-- CPL (R301). -/
def execCpl (s : State) : Host.Outcome State Fault Refusal :=
  let r := cpl8 s.a s.flags
  .next (((s.setR .a r.1).setFlags r.2).tick 4)

/-- SCF (R303). -/
def execScf (s : State) : Host.Outcome State Fault Refusal :=
  .next ((s.setFlags (scfFlags s.flags)).tick 4)

/-- CCF (R302). -/
def execCcf (s : State) : Host.Outcome State Fault Refusal :=
  .next ((s.setFlags (ccfFlags s.flags)).tick 4)

/-- HALT (R305). -/
def execHalt (s : State) : Host.Outcome State Fault Refusal :=
  .next (({ s with mode := s.haltMode }).tick 4)

/-- DI (R308). -/
def execDi (s : State) : Host.Outcome State Fault Refusal :=
  .next (({ s with ime := false, eiPending := false }).tick 4)

/-- EI (R309). -/
def execEi (s : State) : Host.Outcome State Fault Refusal :=
  .next (({ s with eiPending := true }).tick 4)

/-- A reserved byte (R173): takes the exception InvalidOpcode. The state given still has PC at the byte, no
cost is added, and the next step answers the fault (R404, R405, log entry 8). -/
def execInvalid (op : Byte) (s : State) : Host.Outcome State Fault Refusal :=
  .next (s.raiseInvalidOpcode op)

end Sys2Proof.Machine
end

