-- ==== Sys2Proof/Machine/Rotate.lean ====
section
/-! DEFINITION. The meanings of the rotates and shifts (45_rotate_shift.md). -/

namespace Sys2Proof.Machine

/-- RLCA, RLA, RRCA and RRA: the CB operation on A with Z = 0 and a cost of 4 (R320 to R323). -/
def rotateAcc (op : RotOp) (s : State) : Host.Outcome State Fault Refusal :=
  let r := rotAFlags op s.a s.flags.c
  .next (((s.setR .a r.1).setFlags r.2).tick 4)

/-- The r form of a CB rotate or shift (R324 to R338). -/
def rotateReg (op : RotOp) (r : Reg8) (s : State) : Host.Outcome State Fault Refusal :=
  let v := rotFlags op (s.getR r) s.flags.c
  .next (((s.setR r v.1).setFlags v.2).tick 8)

/-- The (HL) form of a CB rotate or shift (R325 to R339). -/
def rotateAtHL (op : RotOp) (s : State) : Host.Outcome State Fault Refusal :=
  let v := rotFlags op (s.readVal s.hl) s.flags.c
  .next (s.modifyAtHL v.1 v.2 16)

/-- RLCA (R320). -/
def execRlca (s : State) : Host.Outcome State Fault Refusal :=
  rotateAcc .rlc s

/-- RRCA (R322). -/
def execRrca (s : State) : Host.Outcome State Fault Refusal :=
  rotateAcc .rrc s

/-- RLA (R321). -/
def execRla (s : State) : Host.Outcome State Fault Refusal :=
  rotateAcc .rl s

/-- RRA (R323). -/
def execRra (s : State) : Host.Outcome State Fault Refusal :=
  rotateAcc .rr s

/-- RLC B (R324). -/
def execRlc_b (s : State) : Host.Outcome State Fault Refusal :=
  rotateReg .rlc .b s

/-- RLC C (R324). -/
def execRlc_c (s : State) : Host.Outcome State Fault Refusal :=
  rotateReg .rlc .c s

/-- RLC D (R324). -/
def execRlc_d (s : State) : Host.Outcome State Fault Refusal :=
  rotateReg .rlc .d s

/-- RLC E (R324). -/
def execRlc_e (s : State) : Host.Outcome State Fault Refusal :=
  rotateReg .rlc .e s

/-- RLC H (R324). -/
def execRlc_h (s : State) : Host.Outcome State Fault Refusal :=
  rotateReg .rlc .h s

/-- RLC L (R324). -/
def execRlc_l (s : State) : Host.Outcome State Fault Refusal :=
  rotateReg .rlc .l s

/-- RLC (HL) (R325). -/
def execRlc_atHL (s : State) : Host.Outcome State Fault Refusal :=
  rotateAtHL .rlc s

/-- RLC A (R324). -/
def execRlc_a (s : State) : Host.Outcome State Fault Refusal :=
  rotateReg .rlc .a s

/-- RRC B (R326). -/
def execRrc_b (s : State) : Host.Outcome State Fault Refusal :=
  rotateReg .rrc .b s

/-- RRC C (R326). -/
def execRrc_c (s : State) : Host.Outcome State Fault Refusal :=
  rotateReg .rrc .c s

/-- RRC D (R326). -/
def execRrc_d (s : State) : Host.Outcome State Fault Refusal :=
  rotateReg .rrc .d s

/-- RRC E (R326). -/
def execRrc_e (s : State) : Host.Outcome State Fault Refusal :=
  rotateReg .rrc .e s

/-- RRC H (R326). -/
def execRrc_h (s : State) : Host.Outcome State Fault Refusal :=
  rotateReg .rrc .h s

/-- RRC L (R326). -/
def execRrc_l (s : State) : Host.Outcome State Fault Refusal :=
  rotateReg .rrc .l s

/-- RRC (HL) (R327). -/
def execRrc_atHL (s : State) : Host.Outcome State Fault Refusal :=
  rotateAtHL .rrc s

/-- RRC A (R326). -/
def execRrc_a (s : State) : Host.Outcome State Fault Refusal :=
  rotateReg .rrc .a s

/-- RL B (R328). -/
def execRl_b (s : State) : Host.Outcome State Fault Refusal :=
  rotateReg .rl .b s

/-- RL C (R328). -/
def execRl_c (s : State) : Host.Outcome State Fault Refusal :=
  rotateReg .rl .c s

/-- RL D (R328). -/
def execRl_d (s : State) : Host.Outcome State Fault Refusal :=
  rotateReg .rl .d s

/-- RL E (R328). -/
def execRl_e (s : State) : Host.Outcome State Fault Refusal :=
  rotateReg .rl .e s

/-- RL H (R328). -/
def execRl_h (s : State) : Host.Outcome State Fault Refusal :=
  rotateReg .rl .h s

/-- RL L (R328). -/
def execRl_l (s : State) : Host.Outcome State Fault Refusal :=
  rotateReg .rl .l s

/-- RL (HL) (R329). -/
def execRl_atHL (s : State) : Host.Outcome State Fault Refusal :=
  rotateAtHL .rl s

/-- RL A (R328). -/
def execRl_a (s : State) : Host.Outcome State Fault Refusal :=
  rotateReg .rl .a s

/-- RR B (R330). -/
def execRr_b (s : State) : Host.Outcome State Fault Refusal :=
  rotateReg .rr .b s

/-- RR C (R330). -/
def execRr_c (s : State) : Host.Outcome State Fault Refusal :=
  rotateReg .rr .c s

/-- RR D (R330). -/
def execRr_d (s : State) : Host.Outcome State Fault Refusal :=
  rotateReg .rr .d s

/-- RR E (R330). -/
def execRr_e (s : State) : Host.Outcome State Fault Refusal :=
  rotateReg .rr .e s

/-- RR H (R330). -/
def execRr_h (s : State) : Host.Outcome State Fault Refusal :=
  rotateReg .rr .h s

/-- RR L (R330). -/
def execRr_l (s : State) : Host.Outcome State Fault Refusal :=
  rotateReg .rr .l s

/-- RR (HL) (R331). -/
def execRr_atHL (s : State) : Host.Outcome State Fault Refusal :=
  rotateAtHL .rr s

/-- RR A (R330). -/
def execRr_a (s : State) : Host.Outcome State Fault Refusal :=
  rotateReg .rr .a s

/-- SLA B (R332). -/
def execSla_b (s : State) : Host.Outcome State Fault Refusal :=
  rotateReg .sla .b s

/-- SLA C (R332). -/
def execSla_c (s : State) : Host.Outcome State Fault Refusal :=
  rotateReg .sla .c s

/-- SLA D (R332). -/
def execSla_d (s : State) : Host.Outcome State Fault Refusal :=
  rotateReg .sla .d s

/-- SLA E (R332). -/
def execSla_e (s : State) : Host.Outcome State Fault Refusal :=
  rotateReg .sla .e s

/-- SLA H (R332). -/
def execSla_h (s : State) : Host.Outcome State Fault Refusal :=
  rotateReg .sla .h s

/-- SLA L (R332). -/
def execSla_l (s : State) : Host.Outcome State Fault Refusal :=
  rotateReg .sla .l s

/-- SLA (HL) (R333). -/
def execSla_atHL (s : State) : Host.Outcome State Fault Refusal :=
  rotateAtHL .sla s

/-- SLA A (R332). -/
def execSla_a (s : State) : Host.Outcome State Fault Refusal :=
  rotateReg .sla .a s

/-- SRA B (R334). -/
def execSra_b (s : State) : Host.Outcome State Fault Refusal :=
  rotateReg .sra .b s

/-- SRA C (R334). -/
def execSra_c (s : State) : Host.Outcome State Fault Refusal :=
  rotateReg .sra .c s

/-- SRA D (R334). -/
def execSra_d (s : State) : Host.Outcome State Fault Refusal :=
  rotateReg .sra .d s

/-- SRA E (R334). -/
def execSra_e (s : State) : Host.Outcome State Fault Refusal :=
  rotateReg .sra .e s

/-- SRA H (R334). -/
def execSra_h (s : State) : Host.Outcome State Fault Refusal :=
  rotateReg .sra .h s

/-- SRA L (R334). -/
def execSra_l (s : State) : Host.Outcome State Fault Refusal :=
  rotateReg .sra .l s

/-- SRA (HL) (R335). -/
def execSra_atHL (s : State) : Host.Outcome State Fault Refusal :=
  rotateAtHL .sra s

/-- SRA A (R334). -/
def execSra_a (s : State) : Host.Outcome State Fault Refusal :=
  rotateReg .sra .a s

/-- SWAP B (R336). -/
def execSwap_b (s : State) : Host.Outcome State Fault Refusal :=
  rotateReg .swap .b s

/-- SWAP C (R336). -/
def execSwap_c (s : State) : Host.Outcome State Fault Refusal :=
  rotateReg .swap .c s

/-- SWAP D (R336). -/
def execSwap_d (s : State) : Host.Outcome State Fault Refusal :=
  rotateReg .swap .d s

/-- SWAP E (R336). -/
def execSwap_e (s : State) : Host.Outcome State Fault Refusal :=
  rotateReg .swap .e s

/-- SWAP H (R336). -/
def execSwap_h (s : State) : Host.Outcome State Fault Refusal :=
  rotateReg .swap .h s

/-- SWAP L (R336). -/
def execSwap_l (s : State) : Host.Outcome State Fault Refusal :=
  rotateReg .swap .l s

/-- SWAP (HL) (R337). -/
def execSwap_atHL (s : State) : Host.Outcome State Fault Refusal :=
  rotateAtHL .swap s

/-- SWAP A (R336). -/
def execSwap_a (s : State) : Host.Outcome State Fault Refusal :=
  rotateReg .swap .a s

/-- SRL B (R338). -/
def execSrl_b (s : State) : Host.Outcome State Fault Refusal :=
  rotateReg .srl .b s

/-- SRL C (R338). -/
def execSrl_c (s : State) : Host.Outcome State Fault Refusal :=
  rotateReg .srl .c s

/-- SRL D (R338). -/
def execSrl_d (s : State) : Host.Outcome State Fault Refusal :=
  rotateReg .srl .d s

/-- SRL E (R338). -/
def execSrl_e (s : State) : Host.Outcome State Fault Refusal :=
  rotateReg .srl .e s

/-- SRL H (R338). -/
def execSrl_h (s : State) : Host.Outcome State Fault Refusal :=
  rotateReg .srl .h s

/-- SRL L (R338). -/
def execSrl_l (s : State) : Host.Outcome State Fault Refusal :=
  rotateReg .srl .l s

/-- SRL (HL) (R339). -/
def execSrl_atHL (s : State) : Host.Outcome State Fault Refusal :=
  rotateAtHL .srl s

/-- SRL A (R338). -/
def execSrl_a (s : State) : Host.Outcome State Fault Refusal :=
  rotateReg .srl .a s

end Sys2Proof.Machine
end

