-- ==== Sys2Proof/Machine/Unit.lean ====
section
/-! DEFINITION. One unit of work (60_exceptions.md section 1), which step only calls, and the placing of an
opcode-table word where the next step fetches. -/

namespace Sys2Proof.Machine

/-- The end of an instruction unit (R400) of a step from the state before: InvalidOpcode rolls the step back,
the EI commit with it (R402, R405); otherwise the commit runs, given ei_pending at the unit's start. The
instruction's cost was already added by its meaning (log entry 7). -/
def finishUnit (before : State) :
    Host.Outcome State Fault Refusal → Host.Outcome State Fault Refusal
  | .next t =>
    match t.fault with
    | some _ => .next (t.rolledBack before)
    | none => .next (t.commitEi before.eiPending)
  | .fault r => .fault r
  | .refused r => .refused r

/-- An instruction unit: fetch, decode, the instruction, the commit or the rollback (R400, R401). -/
def executeOne (before s : State) : Host.Outcome State Fault Refusal :=
  finishUnit before (exec s.fetch.1 s.fetch.2)

/-- The unit of work of a state s that is neither faulted nor stopped and has had its chance to wake from the
state before: a dispatch, a halted tick or an instruction (R400). -/
def awakeUnit (before s : State) : Host.Outcome State Fault Refusal :=
  match s.takes with
  | some k => .next (s.dispatch k)
  | none => if s.mode = Mode.halted then .next (s.tick s.cfg.haltTick) else executeOne before s

/-- step() of R400, its checks in the order of R427: fault, Stopped, wake, dispatch, halted tick,
instruction. -/
def unitOfWork (s : State) : Host.Outcome State Fault Refusal :=
  match s.fault with
  | some x => .fault (.invalidOpcode x.op x.pc)
  | none => if s.mode = Mode.stopped then .next (s.tick s.cfg.stopTick) else awakeUnit s s.wake

/-- What step() returns to the host (R403). -/
inductive StepResult where
  /-- The count of the unit of work, in CYCLE_UNIT. -/
  | ok (cycles : Nat)
  /-- The session fault. -/
  | fault (x : InvalidOpcode)
deriving DecidableEq, Repr

/-- The result of the step from s: the recorded fault, or the amount by which clock grew (R403); none only
if the step were refused. -/
def stepResult (s : State) : Option StepResult :=
  match unitOfWork s with
  | .next t =>
    match t.fault with
    | some x => some (.fault x)
    | none => some (.ok (t.clock - s.clock))
  | .fault (.invalidOpcode op pc) => some (.fault { op := op, pc := pc })
  | .refused _ => none

/-! ### Placing an instruction -/

/-- Whether an address reaches a byte that can be set without any other effect. -/
def State.placeable (s : State) (a : Word) : Bool :=
  match region a with
  | .rom | .wram | .mirror | .hram => true
  | .cartRam =>
    match s.ramTarget a with
    | .cram _ => true
    | _ => false
  | _ => false

/-- Set the byte an address reads, in ROM, WRAM, HRAM or CRAM. -/
def State.place (a : Word) (v : Byte) (s : State) : State :=
  match region a with
  | .rom => { s with cart := { s.cart with rom := s.cart.rom.write (s.romOffset a) v } }
  | .wram => { s with wram := s.wram.write (a.toNat - 0xC000) v }
  | .mirror => { s with wram := s.wram.write (a.toNat - 0xE000) v }
  | .hram => { s with hram := s.hram.write (a.toNat - 0xFF80) v }
  | .cartRam =>
    match s.ramTarget a with
    | .cram offset => { s with cram := s.cram.write offset v }
    | _ => s
  | _ => s

/-- A state whose next step is an instruction unit: no fault, mode Running, and IME cleared where a dispatch
would come first. -/
def State.readyToFetch (s : State) : State :=
  let s1 := { s with fault := none, mode := Mode.running }
  match s1.takes with
  | some _ => { s1 with ime := false }
  | none => s1

/-- PC where it is if its three bytes can be placed, else the entry point (R461). -/
def State.readyPC (s : State) : State :=
  if s.placeable s.pc && s.placeable (s.pc + 1) && s.placeable (s.pc + 2) then s else { s with pc := 0x0100 }

/-- Set the bytes from an address on. -/
def State.placeBytes (a : Word) : List Byte → State → State
  | [], s => s
  | v :: rest, s => State.placeBytes (a + 1) rest (s.place a v)

/-- The table word's bytes where the next step fetches, and what that takes (log entry 16). -/
def State.placeInstruction (nbits w : Nat) (s : State) : State :=
  let s1 := s.readyToFetch.readyPC
  s1.placeBytes s1.pc (tableBytes nbits w)

end Sys2Proof.Machine
end

