-- ==== Sys2Proof/Machine/Step.lean ====
section
/-! DEFINITION. The step, and the state whose next step runs a given opcode-table word. -/

namespace Sys2Proof.Machine

/-- step() (R400). -/
def step (s : State) : Host.Outcome State Fault Refusal := unitOfWork s

/-- s with an opcode-table word stored where step fetches its next instruction (log entry 16). -/
def State.withFetchWord (s : State) (nbits w : Nat) : State := s.placeInstruction nbits w

end Sys2Proof.Machine
end

