-- ==== Sys2Proof/Machine/Load.lean ====
section
/-! DEFINITION. Cartridge load (20_memory.md section 3, 70_reset_and_hazards.md section 1) and the host's
reset (60_exceptions.md R444). What the spec leaves to a draw is an argument of both. -/

namespace Sys2Proof.Machine

/-- A ROM image: its length, and the bytes that are not zero. -/
structure Image where
  size  : Nat
  bytes : List Host.Cell
deriving DecidableEq, Repr

/-- The draws of a load or a reset: INITIAL_RAM (R7, D9), and the registers that RESET_PROFILE UNSPECIFIED
leaves free (R56). -/
structure Draws where
  wram : List Host.Cell
  hram : List Host.Cell
  cram : List Host.Cell
  a    : Byte
  f    : Byte
  b    : Byte
  c    : Byte
  d    : Byte
  e    : Byte
  h    : Byte
  l    : Byte
  sp   : Word
  ifr  : BitVec 5
deriving DecidableEq, Repr

/-- The kinds of LoadError (R122, R406). -/
inductive LoadError where
  | truncated
  | unsupportedCartridgeType
  | badHeader
  | sizeMismatch
deriving DecidableEq, Repr

/-- The byte of an image at an offset. -/
def Image.byte (img : Image) (k : Nat) : Byte := Memory.read (Memory.ofCells img.size img.bytes) k

/-- rom_banks of a rom_code (R120). -/
def romBanksOf (code : Byte) : Option Nat :=
  if code.toNat ≤ 0x08 then some (2 * 2 ^ code.toNat) else none

/-- ram_size of a ram_code (R120). -/
def ramSizeOf (code : Byte) : Option Nat :=
  if code = 0x00 then some 0
  else if code = 0x01 then some 2048
  else if code = 0x02 then some 8192
  else if code = 0x03 then some 32768
  else if code = 0x04 then some 131072
  else if code = 0x05 then some 65536
  else none

/-- The MBC1 after load (R55). -/
def Mbc1.atLoad : Mbc1 where
  ramEnable := false
  bank1 := 1
  bank2 := 0
  mode := 0

/-- The MBC3 after load (R55). -/
def Mbc3.atLoad (hasRtc : Bool) : Mbc3 where
  hasRtc := hasRtc
  ramEnable := false
  romBank := 1
  sel := .ram 0
  latchPrev := 0xFF
  live := Rtc.zero
  latched := Rtc.zero

/-- The variant a type byte selects, in its load state (R121). -/
def mbcOf (ty : Byte) : Option Mbc :=
  if ty = 0x00 then some .romOnly
  else if ty = 0x01 ∨ ty = 0x02 ∨ ty = 0x03 then some (.mbc1 Mbc1.atLoad)
  else if ty = 0x0F ∨ ty = 0x10 then some (.mbc3 (Mbc3.atLoad true))
  else if ty = 0x11 ∨ ty = 0x12 ∨ ty = 0x13 then some (.mbc3 (Mbc3.atLoad false))
  else none

/-- The register values of a profile: R55, or the draws of R56 with F[3:0] = 0. -/
def initialRegs (profile : ResetProfile) (dr : Draws) (s : State) : State :=
  match profile with
  | .dmgPostBoot =>
    { s with
      a := 0x01, f := 0xB0, b := 0x00, c := 0x13, d := 0x00, e := 0xD8, h := 0x01, l := 0x4D
      sp := 0xFFFE, ifr := 0x01 }
  | .unspecified =>
    { s with
      a := dr.a, f := dr.f &&& 0xF0, b := dr.b, c := dr.c, d := dr.d, e := dr.e, h := dr.h, l := dr.l
      sp := dr.sp, ifr := dr.ifr }

/-- The state of R55 or R56 for a cartridge, its controller and its CRAM. -/
def State.initial (cfg : Config) (cart : Cart) (mbc : Mbc) (cram : Memory) (dr : Draws) : State :=
  initialRegs cfg.resetProfile dr
    { State.reset with
      cfg := cfg, cart := cart, mbc := mbc, cram := cram
      wram := Memory.ofCells 0x2000 dr.wram, hram := Memory.ofCells 0x7F dr.hram }

/-- load(rom): the checks in the order of R122, then the state (R442, R460). -/
def State.load (cfg : Config) (img : Image) (dr : Draws) : Except LoadError State :=
  if img.size < 0x0150 then .error .truncated
  else
    match mbcOf (img.byte 0x0147) with
    | none => .error .unsupportedCartridgeType
    | some mbc =>
      match romBanksOf (img.byte 0x0148), ramSizeOf (img.byte 0x0149) with
      | some romBanks, some ramCode =>
        if img.size ≠ romBanks * 0x4000 then .error .sizeMismatch
        else if mbc = .romOnly ∧ img.byte 0x0148 ≠ 0x00 then .error .sizeMismatch
        else
          let ramSize := if mbc = .romOnly then 0 else ramCode
          .ok (State.initial cfg
            { rom := Memory.ofCells img.size img.bytes, romBanks := romBanks, ramSize := ramSize }
            mbc (Memory.ofCells ramSize dr.cram) dr)
      | _, _ => .error .badHeader

/-- The controller after a host reset: as after load, but the clock keeps its contents (R444). -/
def Mbc.atReset : Mbc → Mbc
  | .romOnly => .romOnly
  | .mbc1 _ => .mbc1 Mbc1.atLoad
  | .mbc3 m => .mbc3 { Mbc3.atLoad m.hasRtc with live := m.live, latched := m.latched }

/-- reset(): as a load of the same image, but CRAM and the clock keep their contents; WRAM and HRAM are
drawn again (R444). The peripherals are not the block's and keep their record. -/
def State.hostReset (dr : Draws) (s : State) : State :=
  { State.initial s.cfg s.cart s.mbc.atReset s.cram dr with draws := s.draws, stub := s.stub }

end Sys2Proof.Machine
end

