-- ==== Sys2Proof/Machine/HostActions.lean ====
section
/-! DEFINITION. What the host does between steps (60_exceptions.md R441) beside step and load: bus access,
raising requests, advancing the clock, reset, and the save state (R443, R54). -/

namespace Sys2Proof.Machine

/-- read(a): bus_read with its effect, and no clock (R155). -/
def State.hostRead (a : Word) (s : State) : Byte × State := (s.readVal a, s.readEff a)

/-- write(a, v): bus_write, and no clock (R155). -/
def State.hostWrite (a : Word) (v : Byte) (s : State) : State := s.busWrite a v

/-- request(mask): IF <- IF | (mask & 0x1F) (R411, R441). -/
def State.request (mask : BitVec 5) (s : State) : State := { s with ifr := s.ifr ||| mask }

/-- The controller after n seconds: only an MBC3 with a clock changes (R146, R441). -/
def Mbc.advance (n : Nat) : Mbc → Mbc
  | .mbc3 m => if m.hasRtc then .mbc3 { m with live := m.live.advance n } else .mbc3 m
  | other => other

/-- rtc_advance(n) (R441). -/
def State.rtcAdvance (n : Nat) (s : State) : State := { s with mbc := s.mbc.advance n }

/-! ### Save state -/

/-- An RTC register set as five bytes. -/
structure RtcBytes where
  s  : Byte
  m  : Byte
  hr : Byte
  dl : Byte
  dh : Byte
deriving DecidableEq, Repr

/-- The bytes of a clock. -/
def Rtc.toBytes (k : Rtc) : RtcBytes where
  s := k.read .s
  m := k.read .m
  hr := k.read .hr
  dl := k.read .dl
  dh := k.read .dh

/-- The clock of five bytes, with the unused bits dropped. -/
def RtcBytes.toRtc (r : RtcBytes) : Rtc :=
  ((((Rtc.zero.write r.s .s).write r.m .m).write r.hr .hr).write r.dl .dl).write r.dh .dh

/-- The exported banking state (R49 to R51), every field as a byte, so that an ill-formed one can be
written down. -/
inductive SavedMbc where
  | romOnly
  | mbc1 (ramEnable : Bool) (bank1 bank2 mode : Byte)
  | mbc3 (ramEnable : Bool) (romBank sel latchPrev : Byte) (live latched : RtcBytes)
deriving DecidableEq, Repr

/-- The exported state: exactly the fields of R54. -/
structure SaveState where
  a         : Byte
  f         : Byte
  b         : Byte
  c         : Byte
  d         : Byte
  e         : Byte
  h         : Byte
  l         : Byte
  sp        : Word
  pc        : Word
  ime       : Bool
  eiPending : Bool
  mode      : Mode
  clock     : Nat
  fault     : Option InvalidOpcode
  ie        : Byte
  ifr       : Byte
  wram      : Memory
  hram      : Memory
  mbc       : SavedMbc
  cram      : Memory
deriving DecidableEq, Repr

/-- sel as the byte R51 gives. -/
def Sel.toByte : Sel → Byte
  | .ram bank => bank.setWidth 8
  | .rtc .s => 0x08
  | .rtc .m => 0x09
  | .rtc .hr => 0x0A
  | .rtc .dl => 0x0B
  | .rtc .dh => 0x0C

/-- The exported banking state. -/
def Mbc.save : Mbc → SavedMbc
  | .romOnly => .romOnly
  | .mbc1 m => .mbc1 m.ramEnable (m.bank1.setWidth 8) (m.bank2.setWidth 8) (m.mode.setWidth 8)
  | .mbc3 m =>
    .mbc3 m.ramEnable (m.romBank.setWidth 8) m.sel.toByte m.latchPrev m.live.toBytes m.latched.toBytes

/-- export() (R443, R54). -/
def State.saveState (s : State) : SaveState where
  a := s.a
  f := s.f
  b := s.b
  c := s.c
  d := s.d
  e := s.e
  h := s.h
  l := s.l
  sp := s.sp
  pc := s.pc
  ime := s.ime
  eiPending := s.eiPending
  mode := s.mode
  clock := s.clock
  fault := s.fault
  ie := s.ie.setWidth 8
  ifr := s.ifr.setWidth 8
  wram := s.wram
  hram := s.hram
  mbc := s.mbc.save
  cram := s.cram

/-- Whether five bytes have their unused bits 0 (R143). -/
def RtcBytes.wf (r : RtcBytes) : Bool := decide (r.toRtc.toBytes = r)

/-- The banking state of an import into a console whose controller is the first argument: none where the
variant differs or a bank value is not in its field (R443, log entry 13). -/
def SavedMbc.restore : Mbc → SavedMbc → Option Mbc
  | .romOnly, .romOnly => some .romOnly
  | .mbc1 _, .mbc1 ramEnable bank1 bank2 mode =>
    if 0 < bank1.toNat ∧ bank1.toNat < 32 ∧ bank2.toNat < 4 ∧ mode.toNat < 2 then
      some (.mbc1 { ramEnable := ramEnable, bank1 := bank1.setWidth 5, bank2 := bank2.setWidth 2
                    mode := mode.setWidth 1 })
    else none
  | .mbc3 m, .mbc3 ramEnable romBank sel latchPrev live latched =>
    match Sel.ofByte m.hasRtc sel with
    | some sel =>
      if 0 < romBank.toNat ∧ romBank.toNat < 128 ∧ live.wf = true ∧ latched.wf = true then
        some (.mbc3 { hasRtc := m.hasRtc, ramEnable := ramEnable, romBank := romBank.setWidth 7, sel := sel
                      latchPrev := latchPrev, live := live.toRtc, latched := latched.toRtc })
      else none
    | none => none
  | _, _ => none

/-- The fields of a save state beside the banking state are well-formed: F[3:0] = 0, IE and IF below 0x20,
and the three RAMs of the configured sizes (R443). -/
def SaveState.wf (ramSize : Nat) (sv : SaveState) : Bool :=
  decide (sv.f &&& 0x0F = 0) && decide (sv.ie.toNat < 0x20) && decide (sv.ifr.toNat < 0x20)
    && Memory.wf 0x2000 sv.wram && Memory.wf 0x7F sv.hram && Memory.wf ramSize sv.cram

/-- Why an import is refused. -/
inductive ImportError where
  /-- The save state is not well-formed for this console (R443). -/
  | illFormed
deriving DecidableEq, Repr

/-- import(s): replaces every field of R54; an ill-formed state is refused (R443). The configuration and
the peripherals stay. -/
def State.restore (s : State) (sv : SaveState) : Except ImportError State :=
  match SavedMbc.restore s.mbc sv.mbc, SaveState.wf s.cart.ramSize sv with
  | some mbc, true =>
    .ok { s with
      a := sv.a, f := sv.f, b := sv.b, c := sv.c, d := sv.d, e := sv.e, h := sv.h, l := sv.l
      sp := sv.sp, pc := sv.pc, ime := sv.ime, eiPending := sv.eiPending, mode := sv.mode
      clock := sv.clock, fault := sv.fault, ie := sv.ie.setWidth 5, ifr := sv.ifr.setWidth 5
      wram := sv.wram, hram := sv.hram, mbc := mbc, cram := sv.cram }
  | _, _ => .error .illFormed

/-! ### The actions together -/

/-- The host's moves between steps on a console (R441). -/
inductive HostAction where
  | read (a : Word)
  | write (a : Word) (v : Byte)
  | request (mask : BitVec 5)
  | rtcAdvance (n : Nat)
  | reset (dr : Draws)
  | saveOut
  | restoreFrom (sv : SaveState)
deriving DecidableEq, Repr

/-- What a move does to the console. A refused import leaves it as it was (R441, R443). -/
def HostAction.apply : HostAction → State → State
  | .read a, s => (s.hostRead a).2
  | .write a v, s => s.hostWrite a v
  | .request mask, s => s.request mask
  | .rtcAdvance n, s => s.rtcAdvance n
  | .reset dr, s => s.hostReset dr
  | .saveOut, s => s
  | .restoreFrom sv, s =>
    match s.restore sv with
    | .ok t => t
    | .error _ => s

end Sys2Proof.Machine
end

