-- ==== Sys2Proof/Safety.lean ====
section
/-! DEFINITION. The well-formed states, in the terms claims use, and the end of a run (60_exceptions.md R446). -/

namespace Sys2Proof.Machine

/-- The bank registers are in range: bank1 and rom_bank are never 0 (R50, R51), and an RTC register is
selected only on a cartridge with a clock (R51, R142). -/
def Mbc.wf : Mbc → Bool
  | .romOnly => true
  | .mbc1 m => decide (m.bank1 ≠ 0)
  | .mbc3 m =>
    decide (m.romBank ≠ 0) &&
      match m.sel with
      | .ram _ => true
      | .rtc _ => m.hasRtc

/-- The well-formed states, which no step and no host action leaves. -/
structure State.Inv (s : State) : Prop where
  /-- F[3:0] = 0 (R36). -/
  flagsLow : s.f &&& 0x0F = 0
  /-- WRAM is 8192 bytes in canonical form (R47). -/
  wram     : Memory.wf 0x2000 s.wram = true
  /-- HRAM is 127 bytes in canonical form (R48). -/
  hram     : Memory.wf 0x7F s.hram = true
  /-- CRAM is ram_size bytes in canonical form (R52). -/
  cram     : Memory.wf s.cart.ramSize s.cram = true
  /-- The stub's storage is in canonical form over the address space (R101). -/
  stub     : Memory.wf 0x10000 s.stub = true
  /-- The bank registers are in range (R50, R51). -/
  mbc      : s.mbc.wf = true

/-- What a load fixed is as the header's tables allow: the bank count of a rom_code, the RAM size of a
ram_code, and the image in canonical form (R120, R122). Constant after load (R12). -/
structure Cart.Ok (c : Cart) : Prop where
  romBanks : ∃ code : Byte, romBanksOf code = some c.romBanks
  ramSize  : ∃ code : Byte, ramSizeOf code = some c.ramSize
  rom      : Memory.wf (c.romBanks * 0x4000) c.rom = true

/-- What no step changes: the parameters (R7), the image, bank count and RAM size, and the variant (R12). -/
def Mbc.sameVariant : Mbc → Mbc → Bool
  | .romOnly, .romOnly => true
  | .mbc1 _, .mbc1 _ => true
  | .mbc3 m, .mbc3 m' => m.hasRtc == m'.hasRtc
  | _, _ => false

/-- How a run of a launch ends (R446). -/
inductive RunEnd where
  /-- (a) The program's STOP: a clean end. -/
  | stopped
  /-- (b) PC at the end address in mode Running: a clean end. -/
  | atEnd
  /-- (c) A session fault: never a clean end. -/
  | faulted
  /-- (d) The step bound is used up: not a clean end. -/
  | timeout
deriving DecidableEq, Repr

/-- Whether a run ends at this step boundary, for an optional end address. A fault is looked at first,
since a faulted state is never a successful end (R404). -/
def endOfRun (endAt : Option Word) (s : State) : Option RunEnd :=
  if s.fault.isSome then some .faulted
  else if s.mode = Mode.stopped then some .stopped
  else if endAt = some s.pc ∧ s.mode = Mode.running then some .atEnd
  else none

/-- A run with no host action, of at most the given number of steps (R446). -/
def runUntil (endAt : Option Word) : Nat → State → RunEnd × State
  | 0, s => ((endOfRun endAt s).getD .timeout, s)
  | n + 1, s =>
    match endOfRun endAt s with
    | some e => (e, s)
    | none =>
      match step s with
      | .next t => runUntil endAt n t
      | .fault _ => (.faulted, s)
      | .refused _ => (.timeout, s)

/-- A clean end (R446 (a), (b)). -/
def RunEnd.clean : RunEnd → Bool
  | .stopped | .atEnd => true
  | .faulted | .timeout => false

/-! ### Codes of the operand fields -/

/-- The code of a register in field r (R163). -/
def regCode : Reg8 → Nat
  | .b => 0
  | .c => 1
  | .d => 2
  | .e => 3
  | .h => 4
  | .l => 5
  | .a => 7

/-- The code of a pair in field rp (R164). -/
def pairCode : Reg16 → Nat
  | .bc => 0
  | .de => 1
  | .hl => 2
  | .sp => 3

/-- The code of a pair in field rp2 (R165). -/
def stkCode : RegStk → Nat
  | .bc => 0
  | .de => 1
  | .hl => 2
  | .af => 3

/-- The code of a condition in field cc (R166). -/
def condCode : Cond → Nat
  | .nz => 0
  | .z => 1
  | .nc => 2
  | .c => 3

/-- An opcode byte written as a number. -/
def opByte (n : Nat) : Byte := BitVec.ofNat 8 n

/-! ### Operand forms -/

/-- The three forms of the source of an 8-bit ALU operation (R250). -/
inductive AluSrc where
  | reg (r : Reg8)
  | atHL
  | imm (n : Byte)
deriving DecidableEq, Repr

/-- The instruction of an ALU operation and a form. -/
def AluSrc.instr (op : AluOp) : AluSrc → Instr
  | .reg r => .aluReg op r
  | .atHL => .aluAtHL op
  | .imm n => .aluImm op n

/-- The encoding of the ALU operation with the given code (R168). -/
def AluSrc.bytes (code : Nat) : AluSrc → List Byte
  | .reg r => [opByte (0x80 + 8 * code + regCode r)]
  | .atHL => [opByte (0x86 + 8 * code)]
  | .imm n => [opByte (0xC6 + 8 * code), n]

/-- src of R250. -/
def AluSrc.value (s : State) : AluSrc → Byte
  | .reg r => s.getR r
  | .atHL => s.readVal s.hl
  | .imm n => n

/-- The state once the source has been read. -/
def AluSrc.read (s : State) : AluSrc → State
  | .reg _ => s
  | .atHL => s.readEff s.hl
  | .imm _ => s

/-- The cost in T: 4, 8 and 8 (R250). -/
def AluSrc.cost : AluSrc → Nat
  | .reg _ => 4
  | .atHL => 8
  | .imm _ => 8

/-- The two forms of an operand that is read and written (R191). -/
inductive Place where
  | reg (r : Reg8)
  | atHL
deriving DecidableEq, Repr

/-- The code of the place in field r (R163). -/
def Place.code : Place → Nat
  | .reg r => regCode r
  | .atHL => 6

/-- One of two things, by form. -/
def Place.pick {α : Type} (ofReg : Reg8 → α) (ofMem : α) : Place → α
  | .reg r => ofReg r
  | .atHL => ofMem

/-- The byte read (R191). -/
def Place.value (s : State) : Place → Byte
  | .reg r => s.getR r
  | .atHL => s.readVal s.hl

/-- The state once the place has been read. -/
def Place.read (s : State) : Place → State
  | .reg _ => s
  | .atHL => s.readEff s.hl

/-- The state once v has been written back: for (HL), one read and then one write at the same HL (R191). -/
def Place.store (v : Byte) (s : State) : Place → State
  | .reg r => s.setR r v
  | .atHL => (s.readEff s.hl).busWrite s.hl v

/-! ### What an encoding lets an instruction touch

Read off the fields of the opcode bytes (R170, R169) and the instruction rules; written without exec. -/

/-- The bytes of an instruction, 0 past its end. -/
def instrByte (i : Instr) (k : Nat) : Byte := (encode i).getD k 0

/-- The registers of a pair of field rp; SP has none. -/
def pairRegs : Reg16 → List Reg8
  | .bc => [.b, .c]
  | .de => [.d, .e]
  | .hl => [.h, .l]
  | .sp => []

/-- The registers other than F of a pair of field rp2. -/
def stkRegs : RegStk → List Reg8
  | .bc => [.b, .c]
  | .de => [.d, .e]
  | .hl => [.h, .l]
  | .af => [.a]

/-- The registers other than F that an instruction may write. -/
def regsWritten (op b1 : Byte) : List Reg8 :=
  match fieldX op, fieldZ op with
  | 0, 0 => []
  | 0, 1 => if fieldQ op = 0 then pairRegs (rpOfCode (fieldP op)) else [.h, .l]
  | 0, 2 => (if fieldQ op = 1 then [.a] else []) ++ (if 2 ≤ fieldP op then [.h, .l] else [])
  | 0, 3 => pairRegs (rpOfCode (fieldP op))
  | 0, 7 => if fieldY op < 6 then [.a] else []
  | 0, _ => (regOfCode (fieldY op)).toList
  | 1, _ => if op = 0x76 then [] else (regOfCode (fieldY op)).toList
  | 2, _ => if fieldY op = 7 then [] else [.a]
  | _, 0 => if fieldY op = 6 then [.a] else if fieldY op = 7 then [.h, .l] else []
  | _, 1 => if fieldQ op = 0 then stkRegs (rp2OfCode (fieldP op)) else []
  | _, 2 => if 6 ≤ fieldY op then [.a] else []
  | _, 3 => if op = 0xCB ∧ fieldX b1 ≠ 1 then (regOfCode (fieldZ b1)).toList else []
  | _, 6 => if fieldY op = 7 then [] else [.a]
  | _, _ => []

/-- The flags an instruction may write, as a mask in F's layout (R37). -/
def flagsWritten (op b1 : Byte) : Byte :=
  match fieldX op, fieldZ op with
  | 0, 1 => if fieldQ op = 0 then 0x00 else 0x70
  | 0, 4 => 0xE0
  | 0, 5 => 0xE0
  | 0, 7 =>
    match fieldY op with
    | 4 => 0xB0
    | 5 => 0x60
    | 6 => 0x70
    | 7 => 0x70
    | _ => 0xF0
  | 2, _ => 0xF0
  | 3, 0 => if fieldY op = 5 ∨ fieldY op = 7 then 0xF0 else 0x00
  | 3, 1 => if op = 0xF1 then 0xF0 else 0x00
  | 3, 3 => if op ≠ 0xCB then 0x00 else if fieldX b1 = 0 then 0xF0 else if fieldX b1 = 1 then 0xE0 else 0x00
  | 3, 6 => 0xF0
  | _, _ => 0x00

/-- Whether an instruction may write SP (R32). -/
def writesSP (op : Byte) : Bool :=
  match fieldX op, fieldZ op with
  | 0, 1 => op = 0x31
  | 0, 3 => fieldP op = 3
  | 3, 0 => fieldY op < 4 ∨ fieldY op = 5
  | 3, 1 => op ≠ 0xE9
  | 3, 4 => fieldY op < 4
  | 3, 5 => true
  | 3, 7 => true
  | _, _ => false

/-- Whether an instruction sets PC explicitly (R33). -/
def writesPC (op : Byte) : Bool :=
  match fieldX op, fieldZ op with
  | 0, 0 => 3 ≤ fieldY op
  | 3, 0 => fieldY op < 4
  | 3, 1 => op = 0xC9 ∨ op = 0xD9 ∨ op = 0xE9
  | 3, 2 => fieldY op < 4
  | 3, 3 => op = 0xC3
  | 3, 4 => fieldY op < 4
  | 3, 5 => op = 0xCD
  | 3, 7 => true
  | _, _ => false

/-- The condition of a conditional instruction (R166). -/
def conditionOf (op : Byte) : Option Cond :=
  match fieldX op, fieldZ op with
  | 0, 0 => if 4 ≤ fieldY op then some (condOfCode (fieldY op - 4)) else none
  | 3, 0 => if fieldY op < 4 then some (condOfCode (fieldY op)) else none
  | 3, 2 => if fieldY op < 4 then some (condOfCode (fieldY op)) else none
  | 3, 4 => if fieldY op < 4 then some (condOfCode (fieldY op)) else none
  | _, _ => none

/-- Whether a conditional instruction is taken; any other always is. -/
def State.takesBranch (s : State) (op : Byte) : Bool :=
  match conditionOf op with
  | some cc => s.cond cc
  | none => true

/-- The addresses an instruction reads as data, in order. -/
def State.loadsFrom (s : State) (op b1 b2 : Byte) : List Word :=
  match fieldX op, fieldZ op with
  | 0, 2 =>
    if fieldQ op = 0 then []
    else if fieldP op = 0 then [s.bc]
    else if fieldP op = 1 then [s.de]
    else [s.hl]
  | 0, 4 => if fieldY op = 6 then [s.hl] else []
  | 0, 5 => if fieldY op = 6 then [s.hl] else []
  | 1, 6 => if fieldY op = 6 then [] else [s.hl]
  | 2, 6 => [s.hl]
  | 3, 0 =>
    if fieldY op < 4 then (if s.takesBranch op then [s.sp, s.sp + 1] else [])
    else if fieldY op = 6 then [highPage b1]
    else []
  | 3, 1 => if fieldQ op = 0 ∨ op = 0xC9 ∨ op = 0xD9 then [s.sp, s.sp + 1] else []
  | 3, 2 => if fieldY op = 6 then [highPage s.c] else if fieldY op = 7 then [ofBytes b2 b1] else []
  | 3, 3 => if op = 0xCB ∧ fieldZ b1 = 6 then [s.hl] else []
  | _, _ => []

/-- The addresses an instruction stores to, in order. -/
def State.storesTo (s : State) (op b1 b2 : Byte) : List Word :=
  match fieldX op, fieldZ op with
  | 0, 0 => if op = 0x08 then [ofBytes b2 b1, ofBytes b2 b1 + 1] else []
  | 0, 2 =>
    if fieldQ op = 1 then []
    else if fieldP op = 0 then [s.bc]
    else if fieldP op = 1 then [s.de]
    else [s.hl]
  | 0, 4 => if fieldY op = 6 then [s.hl] else []
  | 0, 5 => if fieldY op = 6 then [s.hl] else []
  | 0, 6 => if fieldY op = 6 then [s.hl] else []
  | 1, z => if fieldY op = 6 ∧ z ≠ 6 then [s.hl] else []
  | 3, 0 => if fieldY op = 4 then [highPage b1] else []
  | 3, 2 => if fieldY op = 4 then [highPage s.c] else if fieldY op = 5 then [ofBytes b2 b1] else []
  | 3, 3 => if op = 0xCB ∧ fieldZ b1 = 6 ∧ fieldX b1 ≠ 1 then [s.hl] else []
  | 3, 4 => if fieldY op < 4 ∧ s.takesBranch op = true then [s.sp - 1, s.sp - 2] else []
  | 3, 5 => if fieldQ op = 0 ∨ op = 0xCD then [s.sp - 1, s.sp - 2] else []
  | 3, 7 => [s.sp - 1, s.sp - 2]
  | _, _ => []

/-! ### Costs (R480) -/

/-- R480, base opcodes in T: row = high nibble, column = low nibble. A conditional instruction has its taken
cost; a reserved byte and the prefix have 0. -/
def baseCostTable : List (List Nat) :=
  [[4, 12, 8, 8, 4, 4, 8, 4, 20, 8, 8, 8, 4, 4, 8, 4],
   [4, 12, 8, 8, 4, 4, 8, 4, 12, 8, 8, 8, 4, 4, 8, 4],
   [12, 12, 8, 8, 4, 4, 8, 4, 12, 8, 8, 8, 4, 4, 8, 4],
   [12, 12, 8, 8, 12, 12, 12, 4, 12, 8, 8, 8, 4, 4, 8, 4],
   [4, 4, 4, 4, 4, 4, 8, 4, 4, 4, 4, 4, 4, 4, 8, 4],
   [4, 4, 4, 4, 4, 4, 8, 4, 4, 4, 4, 4, 4, 4, 8, 4],
   [4, 4, 4, 4, 4, 4, 8, 4, 4, 4, 4, 4, 4, 4, 8, 4],
   [8, 8, 8, 8, 8, 8, 4, 8, 4, 4, 4, 4, 4, 4, 8, 4]]
  ++ [[4, 4, 4, 4, 4, 4, 8, 4, 4, 4, 4, 4, 4, 4, 8, 4],
   [4, 4, 4, 4, 4, 4, 8, 4, 4, 4, 4, 4, 4, 4, 8, 4],
   [4, 4, 4, 4, 4, 4, 8, 4, 4, 4, 4, 4, 4, 4, 8, 4],
   [4, 4, 4, 4, 4, 4, 8, 4, 4, 4, 4, 4, 4, 4, 8, 4],
   [20, 12, 16, 16, 24, 16, 8, 16, 20, 16, 16, 0, 24, 24, 8, 16],
   [20, 12, 16, 0, 24, 16, 8, 16, 20, 16, 16, 0, 24, 0, 8, 16],
   [12, 12, 8, 0, 0, 16, 8, 16, 16, 4, 16, 0, 0, 0, 8, 16],
   [12, 12, 8, 4, 0, 16, 8, 16, 12, 8, 16, 4, 0, 0, 8, 16]]

/-- R480, CB-prefixed opcodes in T, by their second byte. -/
def cbCostTable : List (List Nat) :=
  [[8, 8, 8, 8, 8, 8, 16, 8, 8, 8, 8, 8, 8, 8, 16, 8],
   [8, 8, 8, 8, 8, 8, 16, 8, 8, 8, 8, 8, 8, 8, 16, 8],
   [8, 8, 8, 8, 8, 8, 16, 8, 8, 8, 8, 8, 8, 8, 16, 8],
   [8, 8, 8, 8, 8, 8, 16, 8, 8, 8, 8, 8, 8, 8, 16, 8],
   [8, 8, 8, 8, 8, 8, 12, 8, 8, 8, 8, 8, 8, 8, 12, 8],
   [8, 8, 8, 8, 8, 8, 12, 8, 8, 8, 8, 8, 8, 8, 12, 8],
   [8, 8, 8, 8, 8, 8, 12, 8, 8, 8, 8, 8, 8, 8, 12, 8],
   [8, 8, 8, 8, 8, 8, 12, 8, 8, 8, 8, 8, 8, 8, 12, 8]]
  ++ [[8, 8, 8, 8, 8, 8, 16, 8, 8, 8, 8, 8, 8, 8, 16, 8],
   [8, 8, 8, 8, 8, 8, 16, 8, 8, 8, 8, 8, 8, 8, 16, 8],
   [8, 8, 8, 8, 8, 8, 16, 8, 8, 8, 8, 8, 8, 8, 16, 8],
   [8, 8, 8, 8, 8, 8, 16, 8, 8, 8, 8, 8, 8, 8, 16, 8],
   [8, 8, 8, 8, 8, 8, 16, 8, 8, 8, 8, 8, 8, 8, 16, 8],
   [8, 8, 8, 8, 8, 8, 16, 8, 8, 8, 8, 8, 8, 8, 16, 8],
   [8, 8, 8, 8, 8, 8, 16, 8, 8, 8, 8, 8, 8, 8, 16, 8],
   [8, 8, 8, 8, 8, 8, 16, 8, 8, 8, 8, 8, 8, 8, 16, 8]]

/-- The cell of an opcode byte in a table of R480. -/
def costCell (table : List (List Nat)) (op : Byte) : Nat := (table.getD (op.toNat / 16) []).getD (op.toNat % 16) 0

/-- The cost in T of a conditional instruction that is not taken (R480): 8 for JR and RET, 12 for JP and CALL. -/
def notTakenCost (op : Byte) : Nat := if fieldZ op = 0 then 8 else 12

/-- The cost in T of an instruction in a state (R192, R480). -/
def State.costT (s : State) (op b1 : Byte) : Nat :=
  if op = 0xCB then costCell cbCostTable b1
  else if s.takesBranch op = true then costCell baseCostTable op
  else notTakenCost op

/-! ### Words of the whole-machine claims -/

/-- Whether cartridge RAM and the clock can be reached now (R49): never on a ROM-only cartridge. -/
def Mbc.ramEnabled : Mbc → Bool
  | .romOnly => false
  | .mbc1 m => m.ramEnable
  | .mbc3 m => m.ramEnable

/-- The live clock of the controller; all zeros where there is none. -/
def Mbc.liveClock : Mbc → Rtc
  | .mbc3 m => m.live
  | _ => Rtc.zero

/-- The seconds a clock shows since day 0, 00:00:00 (R143). -/
def Rtc.seconds (k : Rtc) : Nat :=
  k.day.toNat * 86400 + k.hour.toNat * 3600 + k.min.toNat * 60 + k.sec.toNat

/-- The clock's registers are in their normal ranges (R143). -/
def Rtc.inRange (k : Rtc) : Bool :=
  decide (k.sec.toNat < 60) && decide (k.min.toNat < 60) && decide (k.hour.toNat < 24)

/-- The packed BCD byte of a number below 100. -/
def bcdByte (n : Nat) : Byte := BitVec.ofNat 8 (16 * (n / 10) + n % 10)

end Sys2Proof.Machine
end

