-- ==== Sys2Proof/Certificates/Slice0/Obligations.lean ====
section
/-! DEFINITION. The statements for the provers. Every one is about all states, reachable or not, unless it says otherwise; where it needs a
well-formed state it says so (State.Inv, Sys2Proof/Safety.lean), and StepKeepsInvariant says those are closed under steps. -/

open Sys2Proof Sys2Proof.Machine

/-- Fourteen byte sequences, one for each family of the opcode table and each written out bit by bit from the
encoding its rule gives, decode to the instruction they stand for with its operands; the byte after it is
left. (30_encoding.md section 2, R161, R170, R169) -/
def Obligations.WrittenWordsDecode : Prop :=
  decode [0b01000001, 0x99] = .ok (.ld_b_c, [0x99]) ∧
  decode [0b00111110, 0x7F, 0x99] = .ok (.ld_a_n 0x7F, [0x99]) ∧
  decode [0b11100000, 0x0F, 0x99] = .ok (.ldh_atN_a 0x0F, [0x99]) ∧
  decode [0b00110001, 0xFE, 0xFF, 0x99] = .ok (.ld_sp_nn 0xFFFE, [0x99]) ∧
  decode [0b11110101, 0x99] = .ok (.push_af, [0x99]) ∧
  decode [0b10011110, 0x99] = .ok (.sbc_a_atHL, [0x99]) ∧
  decode [0b00111001, 0x99] = .ok (.add_hl_sp, [0x99]) ∧
  decode [0b01110110, 0x99] = .ok (.halt, [0x99]) ∧
  decode [0b00010000, 0x00, 0x99] = .ok (.stop 0x00, [0x99]) ∧
  decode [0b11001011, 0b00110111, 0x99] = .ok (.swap_a, [0x99]) ∧
  decode [0b11001011, 0b11001011, 0x99] = .ok (.set_1_e, [0x99]) ∧
  decode [0b00100000, 0xFB, 0x99] = .ok (.jr_nz_e 0xFB, [0x99]) ∧
  decode [0b11000011, 0x50, 0x01, 0x99] = .ok (.jp_nn 0x0150, [0x99]) ∧
  decode [0b11010011, 0x99] = .ok (.invalid 0xD3, [0x99])

/-- For every well-formed instruction, with every operand at every value, decode of its encoding followed by any
bytes is the instruction and those bytes. (30_encoding.md section 1, R160, R161, R171, R172) -/
def Obligations.DecodeOfEncode : Prop :=
  ∀ (i : Instr) (rest : List Byte), i.wellFormed = true → decode (encode i ++ rest) = .ok (i, rest)

/-- If a byte sequence decodes to an instruction and a rest, the instruction is well-formed and its encoding
followed by the rest is the sequence: no two byte sequences decode to one instruction, and no bit of an
encoding is dropped. (30_encoding.md section 1, R160, R161, R173, R175) -/
def Obligations.EncodeOfDecode : Prop :=
  ∀ (bytes rest : List Byte) (i : Instr), decode bytes = .ok (i, rest) →
    i.wellFormed = true ∧ encode i ++ rest = bytes

/-- A byte sequence that begins with op decodes, whatever the other bytes are, exactly when it has at least as
many bytes as op gives, and the rest is what follows them; the length is 1, 2 or 3, and 2 for 0xCB and for
0x10 (STOP); for every well-formed instruction it is the length of its encoding; a shorter sequence is an
error by name. (30_encoding.md section 1, R160, R161) -/
def Obligations.LengthFollowsFromFirstByte : Prop :=
  (∀ (op : Byte) (tail : List Byte),
    ((opLength op).bytes ≤ tail.length + 1 →
      ∃ i, decode (op :: tail) = .ok (i, tail.drop ((opLength op).bytes - 1))) ∧
    (tail.length + 1 < (opLength op).bytes → decode (op :: tail) = .error .truncated) ∧
    1 ≤ (opLength op).bytes ∧ (opLength op).bytes ≤ 3) ∧
  decode [] = .error .noByte ∧
  (opLength 0xCB).bytes = 2 ∧ (opLength 0x10).bytes = 2 ∧
  ∀ i : Instr, i.wellFormed = true → (encode i).length = (opLength (instrByte i 0)).bytes

/-- For every opcode byte and every two bytes after it, the instruction of the maps of R171 and R172 is the
instruction that the fields x, y, z, p and q select by R170 and R169. (30_encoding.md section 2, R162, R169,
R170, R171, R172) -/
def Obligations.OpcodeMapsAgreeWithFields : Prop :=
  ∀ op b1 b2 : Byte, decodeBytes op b1 b2 = decodeFields op b1 b2

/-- Reading BC, DE or HL concatenates the two registers, and writing one sets the two halves and nothing else;
AF is read as A and F, and writing it stores the low half with its low nibble cleared. Register numbers
address independent storage: a write to one of the seven registers leaves the other six. (R31) -/
def Obligations.PairsAreTheirHalves : Prop :=
  ∀ (s : State) (v : Word) (hi lo x : Byte) (r r' : Reg8),
    s.getRR .bc = ofBytes s.b s.c ∧ s.getRR .de = ofBytes s.d s.e ∧ s.getRR .hl = ofBytes s.h s.l ∧
    s.setRR .bc v = { s with b := v.extractLsb' 8 8, c := v.extractLsb' 0 8 } ∧
    s.setRR .de v = { s with d := v.extractLsb' 8 8, e := v.extractLsb' 0 8 } ∧
    s.setRR .hl v = { s with h := v.extractLsb' 8 8, l := v.extractLsb' 0 8 } ∧
    s.getStk .bc = (s.b, s.c) ∧ s.getStk .de = (s.d, s.e) ∧ s.getStk .hl = (s.h, s.l) ∧
    s.getStk .af = (s.a, s.f) ∧
    s.setStk .bc hi lo = { s with b := hi, c := lo } ∧ s.setStk .de hi lo = { s with d := hi, e := lo } ∧
    s.setStk .hl hi lo = { s with h := hi, l := lo } ∧ s.setStk .af hi lo = { s with a := hi, f := lo &&& 0xF0 } ∧
    (s.setR r x).getR r' = (if r' = r then x else s.getR r')

/-- In every state LD r,r' and LD r,n, encoded as their rules say, answer a next state that differs only in the
destination register and the clock, at 4 and 8 T; LD r,r changes only the clock. (R200, R201) -/
def Obligations.LoadRegister : Prop :=
  ∀ (dst src : Reg8) (n : Byte) (s : State),
    encode (.ldRegReg dst src) = [opByte (0x40 + 8 * regCode dst + regCode src)] ∧
    exec (.ldRegReg dst src) s = .next ((s.setR dst (s.getR src)).tick 4) ∧
    exec (.ldRegReg dst dst) s = .next (s.tick 4) ∧
    encode (.ldRegImm dst n) = [opByte (0x06 + 8 * regCode dst), n] ∧
    exec (.ldRegImm dst n) s = .next ((s.setR dst n).tick 8)

/-- In every state each 8-bit load from memory, encoded as its rule says, answers the state after one bus read
at its address (HL, BC, DE, nn, 0xFF00 + C, 0xFF00 + n) with the destination register set to the byte read
and the clock advanced by its cost; the HL+ and HL- forms then move HL by one, wrapping. (R202, R205, R206,
R209, R211, R213, R215, R216) -/
def Obligations.LoadFromMemory : Prop :=
  ∀ (dst : Reg8) (n : Byte) (nn : Word) (s : State),
    encode (.ldRegAtHL dst) = [opByte (0x46 + 8 * regCode dst)] ∧
    exec (.ldRegAtHL dst) s = .next (((s.readEff s.hl).setR dst (s.readVal s.hl)).tick 8) ∧
    encode .ld_a_atBC = [0x0A] ∧
    exec .ld_a_atBC s = .next (({ s.readEff s.bc with a := s.readVal s.bc } : State).tick 8) ∧
    encode .ld_a_atDE = [0x1A] ∧
    exec .ld_a_atDE s = .next (({ s.readEff s.de with a := s.readVal s.de } : State).tick 8) ∧
    encode (.ld_a_atNN nn) = [0xFA, nn.extractLsb' 0 8, nn.extractLsb' 8 8] ∧
    exec (.ld_a_atNN nn) s = .next (({ s.readEff nn with a := s.readVal nn } : State).tick 16) ∧
    encode .ldh_a_atC = [0xF2] ∧
    exec .ldh_a_atC s = .next (({ s.readEff (0xFF00 + s.c.setWidth 16) with
      a := s.readVal (0xFF00 + s.c.setWidth 16) } : State).tick 8) ∧
    encode (.ldh_a_atN n) = [0xF0, n] ∧
    exec (.ldh_a_atN n) s = .next (({ s.readEff (0xFF00 + n.setWidth 16) with
      a := s.readVal (0xFF00 + n.setWidth 16) } : State).tick 12) ∧
    encode .ld_a_atHLinc = [0x2A] ∧
    exec .ld_a_atHLinc s = .next (({ s.readEff s.hl with
      a := s.readVal s.hl, h := hiByte (s.hl + 1), l := loByte (s.hl + 1) } : State).tick 8) ∧
    encode .ld_a_atHLdec = [0x3A] ∧
    exec .ld_a_atHLdec s = .next (({ s.readEff s.hl with
      a := s.readVal s.hl, h := hiByte (s.hl - 1), l := loByte (s.hl - 1) } : State).tick 8)

/-- In every state each 8-bit store, encoded as its rule says, answers the state after one bus write of its
source byte at its address (HL, BC, DE, nn, 0xFF00 + C, 0xFF00 + n), with the clock advanced by its cost;
the HL+ and HL- forms then move HL by one, wrapping. (R203, R204, R207, R208, R210, R212, R214, R217, R218) -/
def Obligations.StoreToMemory : Prop :=
  ∀ (src : Reg8) (n : Byte) (nn : Word) (s : State),
    encode (.ldAtHLReg src) = [opByte (0x70 + regCode src)] ∧
    exec (.ldAtHLReg src) s = .next ((s.busWrite s.hl (s.getR src)).tick 8) ∧
    exec (.ldAtHLReg .h) s = .next ((s.busWrite s.hl (s.hl.extractLsb' 8 8)).tick 8) ∧
    encode (.ld_atHL_n n) = [0x36, n] ∧
    exec (.ld_atHL_n n) s = .next ((s.busWrite s.hl n).tick 12) ∧
    encode .ld_atBC_a = [0x02] ∧ exec .ld_atBC_a s = .next ((s.busWrite s.bc s.a).tick 8) ∧
    encode .ld_atDE_a = [0x12] ∧ exec .ld_atDE_a s = .next ((s.busWrite s.de s.a).tick 8) ∧
    encode (.ld_atNN_a nn) = [0xEA, nn.extractLsb' 0 8, nn.extractLsb' 8 8] ∧
    exec (.ld_atNN_a nn) s = .next ((s.busWrite nn s.a).tick 16) ∧
    encode .ldh_atC_a = [0xE2] ∧
    exec .ldh_atC_a s = .next ((s.busWrite (0xFF00 + s.c.setWidth 16) s.a).tick 8) ∧
    encode (.ldh_atN_a n) = [0xE0, n] ∧
    exec (.ldh_atN_a n) s = .next ((s.busWrite (0xFF00 + n.setWidth 16) s.a).tick 12) ∧
    encode .ld_atHLinc_a = [0x22] ∧
    exec .ld_atHLinc_a s = .next (({ s.busWrite s.hl s.a with
      h := hiByte (s.hl + 1), l := loByte (s.hl + 1) } : State).tick 8) ∧
    encode .ld_atHLdec_a = [0x32] ∧
    exec .ld_atHLdec_a s = .next (({ s.busWrite s.hl s.a with
      h := hiByte (s.hl - 1), l := loByte (s.hl - 1) } : State).tick 8)

/-- In every state LD rr,nn, LD (nn),SP, LD SP,HL and LD HL,SP+e, encoded as their rules say, answer the next
state with the pair, the two bytes (low byte first) or SP written and nothing else but the clock; LD HL,SP+e
adds the sign-extended byte and sets Z = N = 0 and H and C from the unsigned add of the low byte. (R232,
R233, R234, R239) -/
def Obligations.SixteenBitLoads : Prop :=
  ∀ (rr : Reg16) (nn : Word) (e : Byte) (s : State),
    encode (.ldPairImm rr nn) = [opByte (0x01 + 16 * pairCode rr), nn.extractLsb' 0 8, nn.extractLsb' 8 8] ∧
    exec (.ldPairImm rr nn) s = .next ((s.setRR rr nn).tick 12) ∧
    encode (.ld_atNN_sp nn) = [0x08, nn.extractLsb' 0 8, nn.extractLsb' 8 8] ∧
    exec (.ld_atNN_sp nn) s =
      .next (((s.busWrite nn (s.sp.extractLsb' 0 8)).busWrite (nn + 1) (s.sp.extractLsb' 8 8)).tick 20) ∧
    encode .ld_sp_hl = [0xF9] ∧ exec .ld_sp_hl s = .next (({ s with sp := s.hl } : State).tick 8) ∧
    encode (.ld_hl_spPlusE e) = [0xF8, e] ∧
    exec (.ld_hl_spPlusE e) s = .next (({ s with
      h := hiByte (s.sp + e.signExtend 16), l := loByte (s.sp + e.signExtend 16)
      f := Flags.toByte {
        z := false, n := false
        h := decide (15 < s.sp.toNat % 16 + e.toNat % 16)
        c := decide (255 < s.sp.toNat % 256 + e.toNat) } } : State).tick 12)

/-- In every state PUSH rr, encoded as its rule says, decrements SP and writes the high byte at it, then again
for the low byte, as two bus writes; POP rr reads the low byte at SP, increments SP, reads the high byte,
increments SP, and writes the pair, AF keeping only bits 7 to 4 of the low byte. Nothing else changes but
the clock. (R230, R231, R235, R236, R237, R238) -/
def Obligations.PushAndPop : Prop :=
  ∀ (rr : RegStk) (s : State),
    (let s1 : State := ({ s with sp := s.sp - 1 } : State).busWrite (s.sp - 1) (s.getStk rr).1
     let s2 : State := ({ s1 with sp := s.sp - 2 } : State).busWrite (s.sp - 2) (s.getStk rr).2
     encode (.pushPair rr) = [opByte (0xC5 + 16 * stkCode rr)] ∧
     exec (.pushPair rr) s = .next (s2.tick 16)) ∧
    (let s1 : State := { s.readEff s.sp with sp := s.sp + 1 }
     let s2 : State := { s1.readEff (s.sp + 1) with sp := s.sp + 2 }
     let lo := s.readVal s.sp
     let hi := s1.readVal (s.sp + 1)
     encode (.popPair rr) = [opByte (0xC1 + 16 * stkCode rr)] ∧
     exec (.popPair rr) s = .next ((match rr with
       | .bc => ({ s2 with b := hi, c := lo } : State)
       | .de => { s2 with d := hi, e := lo }
       | .hl => { s2 with h := hi, l := lo }
       | .af => { s2 with a := hi, f := lo &&& 0xF0 }).tick 12))

/-- In a well-formed state whose two stack bytes lie in work RAM (SP from 0xC002 to 0xE000) or in high RAM (SP
from 0xFF82 to 0xFFFF), PUSH rr answers a state in which SP - 1 reads the high byte and SP - 2 the low byte
of rr, and POP rr from there answers that state with SP back at its old value and the pair as it was.
(41_load16.md, R230, R231, R36, R47, R48) -/
def Obligations.PopUndoesPush : Prop :=
  ∀ (rr : RegStk) (s : State), s.Inv →
    (0xC002 ≤ s.sp.toNat ∧ s.sp.toNat ≤ 0xE000) ∨ (0xFF82 ≤ s.sp.toNat ∧ s.sp.toNat ≤ 0xFFFF) →
    ∃ t u : State, exec (.pushPair rr) s = .next t ∧ exec (.popPair rr) t = .next u ∧
      t.sp = s.sp - 2 ∧ t.readVal (s.sp - 1) = (s.getStk rr).1 ∧ t.readVal (s.sp - 2) = (s.getStk rr).2 ∧
      u = ({ t with sp := s.sp } : State).tick 12 ∧ u.getStk rr = s.getStk rr

/-- In every state ADD A,src and ADC A,src, with src a register, (HL) or an immediate and encoded as the rules
say, answer the state after the source is read with A the sum (with F.C for ADC) modulo 256, Z set when it
is 0, N = 0, H the carry out of bit 3 and C the carry out of bit 7, and nothing else changed but the clock,
at 4, 8 and 8 T. (R251, R252, R253, R254, R255, R256) -/
def Obligations.AddAndAddWithCarry : Prop :=
  ∀ (src : AluSrc) (s : State),
    let a := s.a.toNat
    let v := (src.value s).toNat
    let result := fun (carryIn : Nat) =>
      (Host.Outcome.next ((({ src.read s with
        a := BitVec.ofNat 8 (a + v + carryIn)
        f := Flags.toByte {
          z := decide ((a + v + carryIn) % 256 = 0), n := false
          h := decide (15 < a % 16 + v % 16 + carryIn)
          c := decide (255 < a + v + carryIn) } } : State)).tick src.cost) : Host.Outcome State Fault Refusal)
    encode (src.instr .add) = src.bytes 0 ∧ exec (src.instr .add) s = result 0 ∧
    encode (src.instr .adc) = src.bytes 1 ∧ exec (src.instr .adc) s = result (s.f.getLsbD 4).toNat

/-- In every state SUB src and SBC A,src, with src a register, (HL) or an immediate and encoded as the rules
say, answer the state after the source is read with A the difference (less F.C for SBC) modulo 256, Z set
when it is 0, N = 1, H the borrow from bit 4 and C the borrow from bit 8, and nothing else changed but the
clock, at 4, 8 and 8 T. (R257, R258, R259, R260, R261, R262) -/
def Obligations.SubtractAndSubtractWithBorrow : Prop :=
  ∀ (src : AluSrc) (s : State),
    let a := s.a.toNat
    let v := (src.value s).toNat
    let result := fun (borrowIn : Nat) =>
      (Host.Outcome.next ((({ src.read s with
        a := BitVec.ofNat 8 (a + 512 - v - borrowIn)
        f := Flags.toByte {
          z := decide ((a + 512 - v - borrowIn) % 256 = 0), n := true
          h := decide (a % 16 < v % 16 + borrowIn)
          c := decide (a < v + borrowIn) } } : State)).tick src.cost) : Host.Outcome State Fault Refusal)
    encode (src.instr .sub) = src.bytes 2 ∧ exec (src.instr .sub) s = result 0 ∧
    encode (src.instr .sbc) = src.bytes 3 ∧ exec (src.instr .sbc) s = result (s.f.getLsbD 4).toNat

/-- In every state AND, XOR and OR, with a register, (HL) or an immediate as source and encoded as the rules
say, answer the state after the source is read with A the bitwise result, Z set when it is 0, N = 0, C = 0
and H = 1 for AND and 0 for the others, and nothing else changed but the clock, at 4, 8 and 8 T; XOR A
always gives A = 0x00 and F = 0x80. (R263, R264, R265, R266, R267, R268, R269, R270, R271) -/
def Obligations.AndXorOr : Prop :=
  ∀ (src : AluSrc) (s : State),
    let v := src.value s
    let result := fun (x : Byte) (h : Bool) =>
      (Host.Outcome.next ((({ src.read s with
        a := x
        f := Flags.toByte { z := decide (x = 0), n := false, h := h, c := false } } : State)).tick src.cost)
        : Host.Outcome State Fault Refusal)
    encode (src.instr .and) = src.bytes 4 ∧ exec (src.instr .and) s = result (s.a &&& v) true ∧
    encode (src.instr .xor) = src.bytes 5 ∧ exec (src.instr .xor) s = result (s.a ^^^ v) false ∧
    encode (src.instr .or) = src.bytes 6 ∧ exec (src.instr .or) s = result (s.a ||| v) false ∧
    exec .xor_a s = .next (({ s with a := 0x00, f := 0x80 } : State).tick 4)

/-- In every state CP src answers the state after the source is read with the flags of A - src and A unchanged;
INC and DEC of a register or of (HL) write back the value plus or minus 1 modulo 256, with Z, N and H as the
rules say and C unchanged; nothing else changes but the clock. (R272, R273, R274, R275, R276, R277, R278) -/
def Obligations.CompareIncrementDecrement : Prop :=
  (∀ (src : AluSrc) (s : State),
    let a := s.a.toNat
    let v := (src.value s).toNat
    encode (src.instr .cp) = src.bytes 7 ∧
    exec (src.instr .cp) s = .next (({ src.read s with
      f := Flags.toByte {
        z := decide (a = v), n := true, h := decide (a % 16 < v % 16), c := decide (a < v) } } : State).tick
      src.cost)) ∧
  ∀ (p : Place) (s : State),
    let v := (p.value s).toNat
    encode (p.pick Instr.incReg .inc_atHL) = [opByte (0x04 + 8 * p.code)] ∧
    exec (p.pick Instr.incReg .inc_atHL) s = .next (({ p.store (BitVec.ofNat 8 (v + 1)) s with
      f := Flags.toByte {
        z := decide (v = 255), n := false, h := decide (v % 16 = 15), c := s.f.getLsbD 4 } } : State).tick
      (p.pick (fun _ => 4) 12)) ∧
    encode (p.pick Instr.decReg .dec_atHL) = [opByte (0x05 + 8 * p.code)] ∧
    exec (p.pick Instr.decReg .dec_atHL) s = .next (({ p.store (BitVec.ofNat 8 (v + 255)) s with
      f := Flags.toByte {
        z := decide (v = 1), n := true, h := decide (v % 16 = 0), c := s.f.getLsbD 4 } } : State).tick
      (p.pick (fun _ => 4) 12))

/-- In every state ADD HL,rr adds modulo 2^16 with N = 0, H the carry out of bit 11, C the carry out of bit 15
and Z unchanged; ADD SP,e adds the sign-extended byte with Z = N = 0 and H and C from the unsigned add of
the low byte; INC rr and DEC rr wrap and change no flag; nothing else changes but the clock. (R290, R291,
R292, R293) -/
def Obligations.SixteenBitArithmetic : Prop :=
  ∀ (rr : Reg16) (e : Byte) (s : State),
    let x := s.hl.toNat
    let y := (s.getRR rr).toNat
    encode (.addHLPair rr) = [opByte (0x09 + 16 * pairCode rr)] ∧
    exec (.addHLPair rr) s = .next (({ s with
      h := hiByte (BitVec.ofNat 16 (x + y)), l := loByte (BitVec.ofNat 16 (x + y))
      f := Flags.toByte {
        z := s.f.getLsbD 7, n := false
        h := decide (4095 < x % 4096 + y % 4096)
        c := decide (65535 < x + y) } } : State).tick 8) ∧
    encode (.add_sp_e e) = [0xE8, e] ∧
    exec (.add_sp_e e) s = .next (({ s with
      sp := s.sp + e.signExtend 16
      f := Flags.toByte {
        z := false, n := false
        h := decide (15 < s.sp.toNat % 16 + e.toNat % 16)
        c := decide (255 < s.sp.toNat % 256 + e.toNat) } } : State).tick 16) ∧
    encode (.incPair rr) = [opByte (0x03 + 16 * pairCode rr)] ∧
    exec (.incPair rr) s = .next ((s.setRR rr (BitVec.ofNat 16 (y + 1))).tick 8) ∧
    encode (.decPair rr) = [opByte (0x0B + 16 * pairCode rr)] ∧
    exec (.decPair rr) s = .next ((s.setRR rr (BitVec.ofNat 16 (y + 65535))).tick 8)

/-- In every state DAA corrects A by 0x60 and 0x06 as N, H, C and A decide, with Z from the result, H = 0, N
unchanged and C set by a high correction when N = 0 and unchanged when N = 1; CPL complements A with N = H =
1; CCF and SCF change C with N = H = 0; NOP changes nothing; each costs 4 T and nothing else changes. (R300,
R301, R302, R303, R304) -/
def Obligations.AdjustAndCarryControl : Prop :=
  ∀ s : State,
    let z := s.f.getLsbD 7
    let n := s.f.getLsbD 6
    let h := s.f.getLsbD 5
    let c := s.f.getLsbD 4
    let a := s.a.toNat
    let high := c || decide (0x99 < a)
    let low := h || decide (0x09 < a % 16)
    let daa := fun (r : Nat) (carry : Bool) =>
      (Host.Outcome.next (({ s with
        a := BitVec.ofNat 8 r
        f := Flags.toByte { z := decide (r % 256 = 0), n := n, h := false, c := carry } } : State).tick 4)
        : Host.Outcome State Fault Refusal)
    encode .daa = [0x27] ∧
    (n = false → exec .daa s = daa (a + (if high then 0x60 else 0) + (if low then 0x06 else 0)) high) ∧
    (n = true → exec .daa s = daa (a + 512 - (if c then 0x60 else 0) - (if h then 0x06 else 0)) c) ∧
    encode .cpl = [0x2F] ∧
    exec .cpl s = .next (({ s with
      a := s.a ^^^ 0xFF, f := Flags.toByte { z := z, n := true, h := true, c := c } } : State).tick 4) ∧
    encode .ccf = [0x3F] ∧
    exec .ccf s = .next (({ s with
      f := Flags.toByte { z := z, n := false, h := false, c := !c } } : State).tick 4) ∧
    encode .scf = [0x37] ∧
    exec .scf s = .next (({ s with
      f := Flags.toByte { z := z, n := false, h := false, c := true } } : State).tick 4) ∧
    encode .nop = [0x00] ∧ exec .nop s = .next (s.tick 4)

/-- For two-digit decimal numbers x and y and a carry k: from a state with A the BCD byte of x, ADC A,n with the
BCD byte of y (F.C = k) and then DAA leave A the BCD byte of (x + y + k) mod 100 and C set exactly when x +
y + k is at least 100; SBC A,n and then DAA leave the BCD byte of (x - y - k) mod 100 and C set exactly when
x is less than y + k. (44_misc.md section 1, R300, R250) -/
def Obligations.DaaGivesDecimalArithmetic : Prop :=
  ∀ (x y : Nat) (s t : State), x < 100 → y < 100 → s.a = bcdByte x →
    let k := (s.f.getLsbD 4).toNat
    (exec (.adc_a_n (bcdByte y)) s = .next t →
      ∃ u, exec .daa t = .next u ∧ u.a = bcdByte ((x + y + k) % 100) ∧
        u.f.getLsbD 4 = decide (100 ≤ x + y + k)) ∧
    (exec (.sbc_a_n (bcdByte y)) s = .next t →
      ∃ u, exec .daa t = .next u ∧ u.a = bcdByte ((x + 200 - y - k) % 100) ∧
        u.f.getLsbD 4 = decide (x < y + k))

/-- In every state RLC, RRC, RL and RR of a register or (HL), encoded as their rules say, write back the rotated
value and set C to the bit rotated out, Z to whether the result is 0 and N = H = 0, at 8 and 16 T; RLCA,
RLA, RRCA and RRA do the same to A with Z = 0 at 4 T; nothing else changes. (R320, R321, R322, R323, R324,
R325, R326, R327, R328, R329, R330, R331) -/
def Obligations.Rotates : Prop :=
  ∀ (p : Place) (s : State),
    let v := (p.value s).toNat
    let carry := (s.f.getLsbD 4).toNat
    let result := fun (r : Nat) (c : Bool) =>
      (Host.Outcome.next (({ p.store (BitVec.ofNat 8 r) s with
        f := Flags.toByte { z := decide (r % 256 = 0), n := false, h := false, c := c } } : State).tick
        (p.pick (fun _ => 8) 16)) : Host.Outcome State Fault Refusal)
    encode (p.pick (Instr.rotReg .rlc) (.rotAtHL .rlc)) = [0xCB, opByte (0 + p.code)] ∧
    exec (p.pick (Instr.rotReg .rlc) (.rotAtHL .rlc)) s = result (2 * v + v / 128) (decide (128 ≤ v)) ∧
    encode (p.pick (Instr.rotReg .rrc) (.rotAtHL .rrc)) = [0xCB, opByte (8 + p.code)] ∧
    exec (p.pick (Instr.rotReg .rrc) (.rotAtHL .rrc)) s = result (v / 2 + 128 * (v % 2)) (decide (v % 2 = 1)) ∧
    encode (p.pick (Instr.rotReg .rl) (.rotAtHL .rl)) = [0xCB, opByte (16 + p.code)] ∧
    exec (p.pick (Instr.rotReg .rl) (.rotAtHL .rl)) s = result (2 * v + carry) (decide (128 ≤ v)) ∧
    encode (p.pick (Instr.rotReg .rr) (.rotAtHL .rr)) = [0xCB, opByte (24 + p.code)] ∧
    exec (p.pick (Instr.rotReg .rr) (.rotAtHL .rr)) s = result (v / 2 + 128 * carry) (decide (v % 2 = 1)) ∧
    (let a := s.a.toNat
     let acc := fun (r : Nat) (c : Bool) =>
       (Host.Outcome.next (({ s with
         a := BitVec.ofNat 8 r
         f := Flags.toByte { z := false, n := false, h := false, c := c } } : State).tick 4)
         : Host.Outcome State Fault Refusal)
     encode .rlca = [0x07] ∧ exec .rlca s = acc (2 * a + a / 128) (decide (128 ≤ a)) ∧
     encode .rla = [0x17] ∧ exec .rla s = acc (2 * a + carry) (decide (128 ≤ a)) ∧
     encode .rrca = [0x0F] ∧ exec .rrca s = acc (a / 2 + 128 * (a % 2)) (decide (a % 2 = 1)) ∧
     encode .rra = [0x1F] ∧ exec .rra s = acc (a / 2 + 128 * carry) (decide (a % 2 = 1)))

/-- In every state SLA, SRA, SWAP and SRL of a register or (HL), encoded as their rules say, write back the
shifted value (SRA keeps bit 7, SWAP exchanges the nibbles) and set C to the bit shifted out (0 for SWAP), Z
to whether the result is 0 and N = H = 0, at 8 and 16 T; nothing else changes. (R332, R333, R334, R335,
R336, R337, R338, R339) -/
def Obligations.Shifts : Prop :=
  ∀ (p : Place) (s : State),
    let v := (p.value s).toNat
    let result := fun (r : Nat) (c : Bool) =>
      (Host.Outcome.next (({ p.store (BitVec.ofNat 8 r) s with
        f := Flags.toByte { z := decide (r % 256 = 0), n := false, h := false, c := c } } : State).tick
        (p.pick (fun _ => 8) 16)) : Host.Outcome State Fault Refusal)
    encode (p.pick (Instr.rotReg .sla) (.rotAtHL .sla)) = [0xCB, opByte (32 + p.code)] ∧
    exec (p.pick (Instr.rotReg .sla) (.rotAtHL .sla)) s = result (2 * v) (decide (128 ≤ v)) ∧
    encode (p.pick (Instr.rotReg .sra) (.rotAtHL .sra)) = [0xCB, opByte (40 + p.code)] ∧
    exec (p.pick (Instr.rotReg .sra) (.rotAtHL .sra)) s = result (v / 2 + (if 128 ≤ v then 128 else 0)) (decide (v % 2 = 1)) ∧
    encode (p.pick (Instr.rotReg .swap) (.rotAtHL .swap)) = [0xCB, opByte (48 + p.code)] ∧
    exec (p.pick (Instr.rotReg .swap) (.rotAtHL .swap)) s = result (16 * (v % 16) + v / 16) (false) ∧
    encode (p.pick (Instr.rotReg .srl) (.rotAtHL .srl)) = [0xCB, opByte (56 + p.code)] ∧
    exec (p.pick (Instr.rotReg .srl) (.rotAtHL .srl)) s = result (v / 2) (decide (v % 2 = 1)) 

/-- In every state BIT b sets Z to the complement of bit b of the register or (HL) with N = 0, H = 1 and C
unchanged and writes no register and no memory; RES b and SET b write back the value with bit b 0 or 1 and
every other bit as it was, with no flag; encodings and costs are those of the rules and nothing else
changes. (R350, R351, R352, R353, R354, R355) -/
def Obligations.SingleBitOperations : Prop :=
  ∀ (b : Fin 8) (p : Place) (s : State),
    let v := p.value s
    ∃ cleared set : Byte,
      (∀ k, k < 8 → cleared.getLsbD k = (if k = b.val then false else v.getLsbD k)) ∧
      (∀ k, k < 8 → set.getLsbD k = (if k = b.val then true else v.getLsbD k)) ∧
      encode (p.pick (Instr.bitReg b) (.bitAtHL b)) = [0xCB, opByte (0x40 + 8 * b.val + p.code)] ∧
      exec (p.pick (Instr.bitReg b) (.bitAtHL b)) s = .next (({ p.read s with
        f := Flags.toByte {
          z := !v.getLsbD b.val, n := false, h := true, c := s.f.getLsbD 4 } } : State).tick
        (p.pick (fun _ => 8) 12)) ∧
      encode (p.pick (Instr.resReg b) (.resAtHL b)) = [0xCB, opByte (0x80 + 8 * b.val + p.code)] ∧
      exec (p.pick (Instr.resReg b) (.resAtHL b)) s =
        .next ((p.store cleared s).tick (p.pick (fun _ => 8) 16)) ∧
      encode (p.pick (Instr.setReg b) (.setAtHL b)) = [0xCB, opByte (0xC0 + 8 * b.val + p.code)] ∧
      exec (p.pick (Instr.setReg b) (.setAtHL b)) s =
        .next ((p.store set s).tick (p.pick (fun _ => 8) 16))

/-- With s the state after the fetch, JP nn, JP HL and JR e set PC to nn, to HL, and to PC plus the sign-
extended byte; the conditional forms do so when cond(cc) holds, at the taken cost, and otherwise change
nothing but the clock, at the not-taken cost; cond is NZ: Z = 0, Z: Z = 1, NC: C = 0, C: C = 1. (R360, R361,
R362, R363, R364) -/
def Obligations.Jumps : Prop :=
  ∀ (cc : Cond) (nn : Word) (e : Byte) (s : State),
    let holds : Bool := match cc with
      | .nz => !s.f.getLsbD 7
      | .z => s.f.getLsbD 7
      | .nc => !s.f.getLsbD 4
      | .c => s.f.getLsbD 4
    encode (.jp_nn nn) = [0xC3, nn.extractLsb' 0 8, nn.extractLsb' 8 8] ∧
    exec (.jp_nn nn) s = .next (({ s with pc := nn } : State).tick 16) ∧
    encode (.jpCond cc nn) = [opByte (0xC2 + 8 * condCode cc), nn.extractLsb' 0 8, nn.extractLsb' 8 8] ∧
    exec (.jpCond cc nn) s =
      .next (if holds then ({ s with pc := nn } : State).tick 16 else s.tick 12) ∧
    encode .jp_hl = [0xE9] ∧ exec .jp_hl s = .next (({ s with pc := s.hl } : State).tick 4) ∧
    encode (.jr_e e) = [0x18, e] ∧
    exec (.jr_e e) s = .next (({ s with pc := s.pc + e.signExtend 16 } : State).tick 12) ∧
    encode (.jrCond cc e) = [opByte (0x20 + 8 * condCode cc), e] ∧
    exec (.jrCond cc e) s =
      .next (if holds then ({ s with pc := s.pc + e.signExtend 16 } : State).tick 12 else s.tick 8)

/-- With s the state after the fetch, CALL nn and RST t write PC to the stack as PUSH does, high byte first, and
set PC to nn or 8t; RET pops PC; RETI pops PC and sets IME = 1 and leaves ei_pending; CALL cc and RET cc do
so when cond(cc) holds, at the taken cost, and otherwise make no stack access and change only the clock.
Nothing else changes. (R365, R366, R377, R370, R371, R376) -/
def Obligations.CallsAndReturns : Prop :=
  ∀ (cc : Cond) (t : Fin 8) (nn : Word) (s : State),
    let holds : Bool := match cc with
      | .nz => !s.f.getLsbD 7
      | .z => s.f.getLsbD 7
      | .nc => !s.f.getLsbD 4
      | .c => s.f.getLsbD 4
    let s1 : State := ({ s with sp := s.sp - 1 } : State).busWrite (s.sp - 1) (s.pc.extractLsb' 8 8)
    let pushed : State := ({ s1 with sp := s.sp - 2 } : State).busWrite (s.sp - 2) (s.pc.extractLsb' 0 8)
    let r1 : State := { s.readEff s.sp with sp := s.sp + 1 }
    let popped : State := { r1.readEff (s.sp + 1) with
      sp := s.sp + 2, pc := r1.readVal (s.sp + 1) ++ s.readVal s.sp }
    encode (.call_nn nn) = [0xCD, nn.extractLsb' 0 8, nn.extractLsb' 8 8] ∧
    exec (.call_nn nn) s = .next (({ pushed with pc := nn } : State).tick 24) ∧
    encode (.callCond cc nn) = [opByte (0xC4 + 8 * condCode cc), nn.extractLsb' 0 8, nn.extractLsb' 8 8] ∧
    exec (.callCond cc nn) s =
      .next (if holds then ({ pushed with pc := nn } : State).tick 24 else s.tick 12) ∧
    encode (.rst t) = [opByte (0xC7 + 8 * t.val)] ∧
    exec (.rst t) s = .next (({ pushed with pc := BitVec.ofNat 16 (8 * t.val) } : State).tick 16) ∧
    encode .ret = [0xC9] ∧ exec .ret s = .next (popped.tick 16) ∧
    encode (.retCond cc) = [opByte (0xC0 + 8 * condCode cc)] ∧
    exec (.retCond cc) s = .next (if holds then popped.tick 20 else s.tick 8) ∧
    encode .reti = [0xD9] ∧ exec .reti s = .next (({ popped with ime := true } : State).tick 16)

/-- In a well-formed state, with s the state after the fetch and SP from 0xC002 to 0xE000 or from 0xFF82 to
0xFFFF, CALL nn and RST t answer a state with PC at the target and SP less 2, from which RET answers a state
with PC and SP those of s. (47_control.md sections 2 and 3, R365, R366, R377, R370, R230, R231) -/
def Obligations.ReturnUndoesCall : Prop :=
  ∀ (i : Instr) (nn : Word) (k : Fin 8) (s : State), s.Inv →
    (0xC002 ≤ s.sp.toNat ∧ s.sp.toNat ≤ 0xE000) ∨ (0xFF82 ≤ s.sp.toNat ∧ s.sp.toNat ≤ 0xFFFF) →
    i = .call_nn nn ∨ (i = .rst k ∧ nn = BitVec.ofNat 16 (8 * k.val)) →
    ∃ t u : State, exec i s = .next t ∧ t.pc = nn ∧ t.sp = s.sp - 2 ∧
      exec .ret t = .next u ∧ u = ({ t with sp := s.sp, pc := s.pc } : State).tick 16

/-- In every state HALT enters HaltBug when IME = 0 and an enabled request is set and Halted otherwise, STOP
(whatever its second byte) enters Stopped, DI clears IME and ei_pending, and EI sets ei_pending and leaves
IME; each costs 4 T and changes nothing else. (R305, R306, R308, R309) -/
def Obligations.HaltStopDisableEnable : Prop :=
  ∀ (n : Byte) (s : State),
    encode .halt = [0x76] ∧
    (s.ime = false ∧ s.ie &&& s.ifr ≠ 0 →
      exec .halt s = .next (({ s with mode := .haltBug } : State).tick 4)) ∧
    (¬ (s.ime = false ∧ s.ie &&& s.ifr ≠ 0) →
      exec .halt s = .next (({ s with mode := .halted } : State).tick 4)) ∧
    encode (.stop n) = [0x10, n] ∧ exec (.stop n) s = .next (({ s with mode := .stopped } : State).tick 4) ∧
    encode .di = [0xF3] ∧
    exec .di s = .next (({ s with ime := false, eiPending := false } : State).tick 4) ∧
    encode .ei = [0xFB] ∧ exec .ei s = .next (({ s with eiPending := true } : State).tick 4)

/-- For every well-formed instruction and every state exec answers a next state whose clock is greater by
exactly the cost that the tables of R480 give its opcode byte (the CB byte for a prefixed one), the not-
taken cost where its condition does not hold, and 0 for a reserved byte. (70_reset_and_hazards.md section 3,
R480, R192, R407) -/
def Obligations.EveryInstructionCompletesAtItsCost : Prop :=
  ∀ (i : Instr) (s : State), i.wellFormed = true →
    ∃ t, exec i s = .next t ∧
      t.clock = s.clock + cyclesIn s.cfg (s.costT (instrByte i 0) (instrByte i 1))

/-- For every instruction: when exec answers a next state, every register outside the list that its opcode
fields give is unchanged, every flag outside their mask is unchanged, SP and PC are unchanged unless the
fields say the instruction writes them, IME changes only by DI and RETI, ei_pending only by DI and EI, mode
only by HALT and STOP, the fault only by a reserved byte, and the parameters and the cartridge never.
(10_state.md, R32, R33, R37, R39, R40, R41, R43, R12) -/
def Obligations.InstructionFrame : Prop :=
  ∀ (i : Instr) (s t : State), exec i s = .next t →
    (∀ r, r ∉ regsWritten (instrByte i 0) (instrByte i 1) → t.getR r = s.getR r) ∧
    (t.f ^^^ s.f) &&& 0xF0 &&& ~~~(flagsWritten (instrByte i 0) (instrByte i 1)) = 0 ∧
    (flagsWritten (instrByte i 0) (instrByte i 1) = 0 → t.f = s.f) ∧
    (writesSP (instrByte i 0) = false → t.sp = s.sp) ∧
    (writesPC (instrByte i 0) = false → t.pc = s.pc) ∧
    (i ≠ .di → i ≠ .reti → t.ime = s.ime) ∧
    (i ≠ .di → i ≠ .ei → t.eiPending = s.eiPending) ∧
    (i ≠ .halt → (∀ n, i ≠ .stop n) → t.mode = s.mode) ∧
    ((∀ op, i ≠ .invalid op) → t.fault = s.fault) ∧
    t.cfg = s.cfg ∧ t.cart = s.cart

/-- For every instruction: when exec answers a next state, every address that none of its store addresses
reaches (they are computed from its operand fields, as in R85 and R96) reads as before, provided the address
is not one whose byte a peripheral draw supplies or the instruction reads no peripheral; and if it has no
store address, IE, IF, work RAM, high RAM, cartridge RAM, the controller and the storage of the reference
stub are unchanged (a read that an oracle peripheral answers still counts a draw). (20_memory.md sections 1
and 2, R84, R85, R96, R191) -/
def Obligations.InstructionMemoryFrame : Prop :=
  ∀ (i : Instr) (s t : State), exec i s = .next t →
    (∀ x : Word,
      (∀ a ∈ s.storesTo (instrByte i 0) (instrByte i 1) (instrByte i 2), s.writeReaches a x = false) →
      (s.cfg.periph = .stub ∨ s.servedByPeriph x = false ∨
        ∀ a ∈ s.loadsFrom (instrByte i 0) (instrByte i 1) (instrByte i 2), s.servedByPeriph a = false) →
      t.readVal x = s.readVal x) ∧
    (s.storesTo (instrByte i 0) (instrByte i 1) (instrByte i 2) = [] →
      t.ie = s.ie ∧ t.ifr = s.ifr ∧ t.wram = s.wram ∧ t.hram = s.hram ∧ t.cram = s.cram ∧ t.mbc = s.mbc ∧
      t.stub = s.stub)

/-- With no fault, mode Running and no dispatch, let b0, b1, b2 be the bytes read at PC one after the other,
each read leaving PC one further. If they decode to an instruction other than a reserved byte, step is exec
of it in the state with PC past exactly its bytes and those reads made, followed by the EI commit: if
ei_pending was and still is 1, IME = 1 and ei_pending = 0. (60_exceptions.md section 1, R190, R400, R401,
R402, R11) -/
def Obligations.StepRunsDecodedInstruction : Prop :=
  ∀ (s : State) (i : Instr) (rest : List Byte), s.fault = none → s.mode = .running → s.takes = none →
    s.readVal s.pc ∉ reservedOpcodes →
    let b0 := s.readVal s.pc
    let s1 : State := { s.readEff s.pc with pc := s.pc + 1 }
    let b1 := s1.readVal s1.pc
    let s2 : State := { s1.readEff s1.pc with pc := s1.pc + 1 }
    let b2 := s2.readVal s2.pc
    let s3 : State := { s2.readEff s2.pc with pc := s2.pc + 1 }
    decode [b0, b1, b2] = .ok (i, rest) →
    let start : State := match rest.length with
      | 2 => s1
      | 1 => s2
      | _ => s3
    ∃ t, exec i start = .next t ∧
      step s = .next (if s.eiPending = true ∧ t.eiPending = true then
        { t with ime := true, eiPending := false } else t)

/-- As for a step in mode Running, but in mode HaltBug: the opcode byte is read at PC, PC stays on it and mode
becomes Running before the operand bytes are read, so the first operand byte is the opcode byte read again.
(30_encoding.md section 5, R190, R432, R41) -/
def Obligations.HaltBugFetchesFirstByteTwice : Prop :=
  ∀ (s : State) (i : Instr) (rest : List Byte), s.fault = none → s.mode = .haltBug → s.takes = none →
    s.readVal s.pc ∉ reservedOpcodes →
    let b0 := s.readVal s.pc
    let s1 : State := { s.readEff s.pc with mode := .running }
    let b1 := s1.readVal s1.pc
    let s2 : State := { s1.readEff s1.pc with pc := s1.pc + 1 }
    let b2 := s2.readVal s2.pc
    let s3 : State := { s2.readEff s2.pc with pc := s2.pc + 1 }
    decode [b0, b1, b2] = .ok (i, rest) →
    let start : State := match rest.length with
      | 2 => s1
      | 1 => s2
      | _ => s3
    ∃ t, exec i start = .next t ∧
      step s = .next (if s.eiPending = true ∧ t.eiPending = true then
        { t with ime := true, eiPending := false } else t)

/-- The reserved bytes are exactly the 11 of R173 and each decodes to the row INVALID and nothing else does; the
meaning of that row in any state records the byte and PC as the fault and changes nothing else. With no
fault, in every mode, if no stopped tick, dispatch or halted tick comes first and the byte at PC is
reserved, step answers the state before it (still Halted where a request was waking it) with the fault
(byte, PC) recorded and nothing else changed but the draw counted where that one read was of an oracle
peripheral; what step returns is the fault. That the fault is recorded in a next state, and that the wake is
undone with the rest, is how the model reads R405 (log entries 8 and 10); that the draw is not given back,
and the counter itself, are choices of the model (log entries 3 and 11). (30_encoding.md section 3,
60_exceptions.md section 2, R173, R400, R404, R405, R407) -/
def Obligations.ReservedByteRecordsInvalidOpcode : Prop :=
  reservedOpcodes = [0xD3, 0xDB, 0xDD, 0xE3, 0xE4, 0xEB, 0xEC, 0xED, 0xF4, 0xFC, 0xFD] ∧
  (∀ op b1 b2 : Byte, (∃ x, decodeBytes op b1 b2 = .invalid x) ↔ op ∈ reservedOpcodes) ∧
  (∀ op b1 b2 : Byte, op ∈ reservedOpcodes → decodeBytes op b1 b2 = .invalid op) ∧
  (∀ (op : Byte) (s : State), exec (.invalid op) s = .next { s with fault := some { op := op, pc := s.pc } }) ∧
  ∀ s : State, s.fault = none → s.mode ≠ .stopped → ¬ (s.mode = .halted ∧ s.ifr = 0) → s.takes = none →
    s.readVal s.pc ∈ reservedOpcodes →
    step s = .next { s.readEff s.pc with fault := some { op := s.readVal s.pc, pc := s.pc } } ∧
    stepResult s = some (.fault { op := s.readVal s.pc, pc := s.pc })

/-- In every state with no fault recorded step answers a next state: no instruction, address, mode or operand
stops the machine or is refused. In every state with a fault recorded step answers that fault and no state,
and its result is that fault. Each host move other than a reset, a load or an import keeps a recorded fault,
and a reset clears it; that an import replaces the fault is how the model reads R441 against R404 (log entry
13). (60_exceptions.md section 1, R404, R403, R441) -/
def Obligations.StepStopsExactlyOnARecordedFault : Prop :=
  (∀ s : State, s.fault = none → ∃ t, step s = .next t) ∧
  (∀ (s : State) (x : InvalidOpcode), s.fault = some x →
    step s = .fault (.invalidOpcode x.op x.pc) ∧ stepResult s = some (.fault x)) ∧
  (∀ (s : State) (x : InvalidOpcode) (a : Word) (v : Byte) (mask : BitVec 5) (n : Nat), s.fault = some x →
    (HostAction.read a).apply s = s.readEff a ∧ ((HostAction.read a).apply s).fault = some x ∧
    ((HostAction.write a v).apply s).fault = some x ∧ ((HostAction.request mask).apply s).fault = some x ∧
    ((HostAction.rtcAdvance n).apply s).fault = some x ∧ (HostAction.saveOut).apply s = s) ∧
  ∀ (s : State) (dr : Draws), ((HostAction.reset dr).apply s).fault = none

/-- If a step from a state with no fault answers a state with a fault, then it was no stopped tick, no halted
tick and no dispatch, the byte read at PC is reserved, the fault is that byte and PC, and the answered state
is the one before, its mode included, with the fault recorded and, where that one read was of an oracle
peripheral, one more draw counted. The clock, the registers and every byte of storage are as before. The
draw counter is of the model and so is the choice not to give the draw back (log entries 3 and 11); that a
wake in the same step is undone too is how the model reads R405 against the pseudocode of R400 (log entry
10). (60_exceptions.md section 2, R405, R406, R407) -/
def Obligations.FaultOnlyFromReservedByte : Prop :=
  ∀ (s t : State) (x : InvalidOpcode), s.fault = none → step s = .next t → t.fault = some x →
    s.mode ≠ .stopped ∧ ¬ (s.mode = .halted ∧ s.ifr = 0) ∧ s.takes = none ∧
    x.op = s.readVal s.pc ∧ x.op ∈ reservedOpcodes ∧ x.pc = s.pc ∧
    t = { s.readEff s.pc with fault := some x } ∧ t.mode = s.mode ∧ t.clock = s.clock ∧ t.pc = s.pc

/-- With no fault: in mode Stopped the step adds STOP_TICK to the clock and changes nothing else, whatever is
pending, and returns STOP_TICK; in mode Halted with no request set it adds HALT_TICK and changes nothing
else and returns HALT_TICK; in mode Halted with any request set, enabled or not, it is the step of the same
state in mode Running, unless it dispatches nothing and the byte at PC is reserved: then it is rolled back
to Halted with the fault recorded (and the draw of that read counted), which is how the model reads R405
(log entry 10; the draw is log entry 11, a choice of the model). The host move request(mask) sets IF to IF |
mask and changes nothing else. Reset gives mode Running, and no other host move but the import of a save
state leaves Stopped; that an import does is how the model reads R441 against R433 (log entry 13).
(60_exceptions.md sections 5 and 7, R405, R411, R424, R430, R431, R433, R441) -/
def Obligations.StoppedAndHaltedUnits : Prop :=
  (∀ s : State, s.fault = none → s.mode = .stopped →
    step s = .next { s with clock := s.clock + cyclesIn s.cfg s.cfg.stopTick } ∧
    stepResult s = some (.ok (cyclesIn s.cfg s.cfg.stopTick))) ∧
  (∀ s : State, s.fault = none → s.mode = .halted → s.ifr = 0 →
    step s = .next { s with clock := s.clock + cyclesIn s.cfg s.cfg.haltTick } ∧
    stepResult s = some (.ok (cyclesIn s.cfg s.cfg.haltTick))) ∧
  (∀ s : State, s.fault = none → s.mode = .halted → s.ifr ≠ 0 →
    (s.takes ≠ none ∨ s.readVal s.pc ∉ reservedOpcodes → step s = step { s with mode := .running }) ∧
    (s.takes = none ∧ s.readVal s.pc ∈ reservedOpcodes →
      step s = .next { s.readEff s.pc with fault := some { op := s.readVal s.pc, pc := s.pc } })) ∧
  (∀ (s : State) (mask : BitVec 5), (HostAction.request mask).apply s = { s with ifr := s.ifr ||| mask }) ∧
  (∀ (s : State) (dr : Draws), ((HostAction.reset dr).apply s).mode = .running) ∧
  ∀ (s : State) (act : HostAction), s.mode = .stopped → (act.apply s).mode ≠ .stopped →
    (∃ dr, act = .reset dr) ∨ ∃ sv, act = .restoreFrom sv

/-- With no fault, mode not Stopped, IME = 1 and a request k that pending() gives, the step is the dispatch of
k: IME = 0 and ei_pending = 0, IF bit k cleared, mode Running if it was HaltBug or Halted, then PC written
to the stack high byte first by two bus writes below SP, SP less 2, PC = 0x0040 + 8k, and the clock advanced
by DISPATCH_COST; nothing else changes. (R420, R421, R423) -/
def Obligations.DispatchTakesTheInterrupt : Prop :=
  ∀ (s : State) (k : Fin 5), s.fault = none → s.mode ≠ .stopped → s.ime = true → s.pending = some k →
    let s0 : State := { s with
      ime := false, eiPending := false, mode := .running
      ifr := s.ifr &&& ~~~(BitVec.ofNat 5 (2 ^ k.val)) }
    let s1 : State := ({ s0 with sp := s.sp - 1 } : State).busWrite (s.sp - 1) (s.pc.extractLsb' 8 8)
    let s2 : State := ({ s1 with sp := s.sp - 2 } : State).busWrite (s.sp - 2) (s.pc.extractLsb' 0 8)
    step s = .next { s2 with
      pc := BitVec.ofNat 16 (0x0040 + 8 * k.val), clock := s.clock + cyclesIn s.cfg s.cfg.dispatchCost }

/-- pending() is k exactly when bit k of IF and IE are both set and no lower bit is set in both, and None
exactly when no bit is; a source is taken exactly when IME = 1 and pending() gives it. (R412, R413) -/
def Obligations.LowestEnabledRequestFirst : Prop :=
  ∀ s : State,
    (∀ k : Fin 5, s.pending = some k ↔
      (s.ie.getLsbD k.val = true ∧ s.ifr.getLsbD k.val = true) ∧
      ∀ j : Fin 5, j < k → ¬ (s.ie.getLsbD j.val = true ∧ s.ifr.getLsbD j.val = true)) ∧
    (s.pending = none ↔ ∀ k : Fin 5, ¬ (s.ie.getLsbD k.val = true ∧ s.ifr.getLsbD k.val = true)) ∧
    ∀ k : Fin 5, s.takes = some k ↔ s.ime = true ∧ s.pending = some k

/-- With no fault, mode Running or HaltBug and no dispatch: a step that runs EI with ei_pending = 0 leaves IME
as it was and ei_pending = 1; a step with ei_pending = 1 that runs any instruction other than DI and records
no fault ends with IME = 1 and ei_pending = 0; one that runs DI ends with IME = 0 and ei_pending = 0; a step
with ei_pending = 0 that runs neither EI, DI nor RETI leaves IME and ei_pending as they were.
(60_exceptions.md section 1, R402, R309, R308, R470) -/
def Obligations.EiTakesEffectAfterTheNextInstruction : Prop :=
  ∀ s t : State, s.fault = none → s.mode = .running ∨ s.mode = .haltBug → s.takes = none → step s = .next t →
    (s.eiPending = false → s.readVal s.pc = 0xFB → t.ime = s.ime ∧ t.eiPending = true) ∧
    (s.eiPending = true → s.readVal s.pc ≠ 0xF3 → t.fault = none → t.ime = true ∧ t.eiPending = false) ∧
    (s.readVal s.pc = 0xF3 → t.ime = false ∧ t.eiPending = false) ∧
    (s.eiPending = false → s.readVal s.pc ≠ 0xFB → s.readVal s.pc ≠ 0xF3 → s.readVal s.pc ≠ 0xD9 →
      t.ime = s.ime ∧ t.eiPending = false)

/-- If a step answers a state whose IME is 1 and was 0, then ei_pending was 1 or the byte fetched at PC was RETI
(0xD9), and no interrupt was dispatched; if IME was 1 and is 0, then an interrupt was dispatched or the byte
fetched at PC was DI (0xF3). In Stopped and in a halted tick it never changes. (10_state.md section 3, R39,
R308, R376, R402, R421) -/
def Obligations.OnlyTheseEventsChangeIme : Prop :=
  ∀ s t : State, step s = .next t →
    (s.ime = false → t.ime = true →
      s.wake.takes = none ∧ (s.eiPending = true ∨ s.readVal s.pc = 0xD9) ∧ s.wake.mode ≠ .halted ∧
        s.mode ≠ .stopped) ∧
    (s.ime = true → t.ime = false →
      (s.wake.takes ≠ none ∨ s.readVal s.pc = 0xF3) ∧ s.wake.mode ≠ .halted ∧ s.mode ≠ .stopped)

/-- If a step answers a next state: from Stopped the mode stays Stopped; if an interrupt is dispatched (after a
wake, if any) it becomes Running; from Halted with no request it stays Halted; otherwise, with op the byte
at PC, it becomes HaltBug or Halted after HALT (by IME and the enabled requests at that time), Stopped after
STOP, stays as it was before the step for a reserved byte, also in a step that was waking from Halted, and
becomes Running after every other instruction. A host reset and a load make it Running, and no other host
move but an import changes it. The reserved-byte clause is how the model reads R405 against the pseudocode
of R400 (log entry 10), and the import exception how it reads R441 against R434 (log entry 13).
(60_exceptions.md section 5, R405, R430, R434, R441) -/
def Obligations.ModeTransitionsAreComplete : Prop :=
  (∀ s t : State, step s = .next t →
    t.mode =
      if s.mode = .stopped then .stopped
      else if s.takes ≠ none then .running
      else if s.mode = .halted ∧ s.ifr = 0 then .halted
      else if s.readVal s.pc = 0x76 then
        (if s.ime = false ∧ s.ie &&& s.ifr ≠ 0 then Mode.haltBug else Mode.halted)
      else if s.readVal s.pc = 0x10 then .stopped
      else if s.readVal s.pc ∈ reservedOpcodes then s.mode
      else .running) ∧
  (∀ (s : State) (dr : Draws), ((HostAction.reset dr).apply s).mode = .running) ∧
  (∀ (cfg : Config) (img : Image) (dr : Draws) (s : State), State.load cfg img dr = .ok s → s.mode = .running) ∧
  ∀ (s : State) (act : HostAction), (∀ dr, act ≠ .reset dr) → (∀ sv, act ≠ .restoreFrom sv) →
    (act.apply s).mode = s.mode

/-- In every state step has a result: if it is a count, step answers a next state with no fault whose clock is
greater by exactly that count; if it is a fault, either that fault was recorded before or the step recorded
it and the clock did not advance. With CYCLE_UNIT = T and the default tick and dispatch costs a count is 4,
8, 12, 16, 20 or 24. (R403) -/
def Obligations.StepReturnsWhatItAddsToTheClock : Prop :=
  (∀ s : State, ∃ r, stepResult s = some r) ∧
  (∀ (s : State) (n : Nat), stepResult s = some (.ok n) →
    ∃ t, step s = .next t ∧ t.fault = none ∧ t.clock = s.clock + n) ∧
  (∀ (s : State) (x : InvalidOpcode), stepResult s = some (.fault x) →
    (s.fault = some x ∧ step s = .fault (.invalidOpcode x.op x.pc)) ∨
    (s.fault = none ∧ ∃ t, step s = .next t ∧ t.fault = some x ∧ t.clock = s.clock)) ∧
  ∀ (s : State) (n : Nat), s.cfg.cycleUnit = .t → s.cfg.haltTick = 4 → s.cfg.stopTick = 4 →
    s.cfg.dispatchCost = 20 → stepResult s = some (.ok n) → n ∈ [4, 8, 12, 16, 20, 24]

/-- State.reset and every state that a successful load under RESET_PROFILE = DMG_POST_BOOT gives have A = 0x01,
F = 0xB0, BC = 0x0013, DE = 0x00D8, HL = 0x014D, SP = 0xFFFE, PC = 0x0100, IME = 0, ei_pending = 0, mode =
Running, clock = 0, no fault, IE reading 0xE0, IF reading 0xE1, the banking state ram_enable = false with
bank1 = 1, bank2 = 0, mode = 0 (MBC1) or rom_bank = 1, sel = 0x00, latch_prev = 0xFF and both clocks all 0
(MBC3), and no interrupt to dispatch. After a load WRAM, HRAM and CRAM hold the draws of INITIAL_RAM. After
a host reset too mode = Running, IME = 0, ei_pending = 0, IE = 0x00, nothing is dispatched, and IF = 0x01
under DMG_POST_BOOT. (R55, R462) -/
def Obligations.ResetValues : Prop :=
  (∀ s : State, (s = State.reset ∨
      ∃ cfg img dr, cfg.resetProfile = .dmgPostBoot ∧ State.load cfg img dr = .ok s) →
    s.a = 0x01 ∧ s.f = 0xB0 ∧ s.b = 0x00 ∧ s.c = 0x13 ∧ s.d = 0x00 ∧ s.e = 0xD8 ∧ s.h = 0x01 ∧ s.l = 0x4D ∧
    s.sp = 0xFFFE ∧ s.pc = 0x0100 ∧ s.ime = false ∧ s.eiPending = false ∧ s.mode = .running ∧ s.clock = 0 ∧
    s.fault = none ∧ s.readVal 0xFFFF = 0xE0 ∧ s.readVal 0xFF0F = 0xE1 ∧ s.takes = none ∧
    match s.mbc with
    | .romOnly => True
    | .mbc1 m => m = { ramEnable := false, bank1 := 1, bank2 := 0, mode := 0 }
    | .mbc3 m => m = { hasRtc := m.hasRtc, ramEnable := false, romBank := 1, sel := .ram 0, latchPrev := 0xFF,
                       live := Rtc.zero, latched := Rtc.zero }) ∧
  (∀ (cfg : Config) (img : Image) (dr : Draws) (s : State), State.load cfg img dr = .ok s →
    s.wram = Memory.ofCells 0x2000 dr.wram ∧ s.hram = Memory.ofCells 0x7F dr.hram ∧
    s.cram = Memory.ofCells s.cart.ramSize dr.cram) ∧
  ∀ (s : State) (dr : Draws),
    (s.hostReset dr).mode = .running ∧ (s.hostReset dr).ime = false ∧ (s.hostReset dr).eiPending = false ∧
    (s.hostReset dr).ie = 0 ∧ (s.hostReset dr).takes = none ∧
    (s.cfg.resetProfile = .dmgPostBoot → (s.hostReset dr).ifr = 0x01)

/-- State.reset satisfies the invariant: F[3:0] = 0, work RAM, high RAM, cartridge RAM and the stub storage in
canonical form within their sizes, and the bank registers in range. (10_state.md, R36, R47, R48, R50, R51,
R52) -/
def Obligations.ResetSatisfiesInvariant : Prop :=
  State.reset.Inv

/-- From every well-formed state, reachable or not, if step answers a next state that state is well-formed:
F[3:0] = 0, every byte storage in canonical form within its size, bank1 and rom_bank never 0, and an RTC
register selected only on a cartridge with a clock. (10_state.md, R36, R47, R48, R50, R51, R52, R132, R141,
R142) -/
def Obligations.StepKeepsInvariant : Prop :=
  ∀ s t : State, s.Inv → step s = .next t → t.Inv

/-- From every well-formed state each host move (bus read, bus write, request, RTC advance, reset with any
draws, export, import of any save state, accepted or refused) gives a well-formed state; a successful load
gives a well-formed state whose bank count and RAM size are those of the header tables and whose image is in
canonical form. (60_exceptions.md section 7, R441, R442, R443, R444, R120, R122) -/
def Obligations.HostActionsKeepInvariant : Prop :=
  (∀ (s : State) (act : HostAction), s.Inv → (act.apply s).Inv) ∧
  ∀ (cfg : Config) (img : Image) (dr : Draws) (s : State), State.load cfg img dr = .ok s →
    s.Inv ∧ s.cart.Ok ∧ s.cfg = cfg

/-- If step answers a next state, or a host move gives a state, its parameters, ROM image bytes, ROM bank count
and RAM size are those before, and the controller is of the same variant, with a clock exactly when it had
one; so every byte of the fixed ROM window reads as before. (00_scope.md section 4, R12) -/
def Obligations.ConfigurationIsConstant : Prop :=
  (∀ s t : State, step s = .next t →
    t.cfg = s.cfg ∧ t.cart = s.cart ∧ Mbc.sameVariant s.mbc t.mbc = true ∧
    ∀ a : Word, a.toNat < 0x4000 → t.readVal a = s.readVal a) ∧
  ∀ (s : State) (act : HostAction),
    (act.apply s).cfg = s.cfg ∧ (act.apply s).cart = s.cart ∧
    Mbc.sameVariant s.mbc (act.apply s).mbc = true ∧
    ∀ a : Word, a.toNat < 0x4000 → (act.apply s).readVal a = s.readVal a

/-- From a state whose RAM-enable latch is false (or whose cartridge is ROM-only), no step, no host bus read and
no host bus write changes a byte of cartridge RAM or the live clock, and every address of the RAM window
reads RAM_DISABLED_VALUE: enabling and using the RAM take two steps. (20_memory.md sections 4 to 6, R49,
R125, R131, R144) -/
def Obligations.DisabledRamIsProtected : Prop :=
  ∀ s : State, s.mbc.ramEnabled = false →
    (∀ t, step s = .next t → t.cram = s.cram ∧ t.mbc.liveClock = s.mbc.liveClock) ∧
    (∀ a : Word, (s.hostRead a).2.cram = s.cram ∧ (s.hostRead a).2.mbc.liveClock = s.mbc.liveClock) ∧
    (∀ (a : Word) (v : Byte),
      (s.hostWrite a v).cram = s.cram ∧ (s.hostWrite a v).mbc.liveClock = s.mbc.liveClock) ∧
    ∀ a : Word, 0xA000 ≤ a.toNat → a.toNat ≤ 0xBFFF → s.readVal a = s.cfg.ramDisabledValue

/-- A read at a returns, by the first test that holds: the byte of the image at the translated offset, a
peripheral byte, the RAM window, WRAM[a - 0xC000], WRAM[a - 0xE000] (the byte at a - 0x2000), a peripheral
byte, OPEN_BUS, 0xE0 | IF, a peripheral byte if a is in PERIPH_MAPPED and else OPEN_BUS, HRAM[a - 0xFF80],
0xE0 | IE. It leaves the state as it is, but for one more draw counted where an oracle peripheral answered;
that counter is of the model, not of the spec (log entry 3, DESIGN CHOICE). The addresses a peripheral
serves are video RAM, object RAM, and those of 0xFF00 to 0xFF7F in PERIPH_MAPPED other than IF.
(20_memory.md section 2, R85, R95, R100, R102, R103) -/
def Obligations.BusReadByAddress : Prop :=
  ∀ (s : State) (a : Word),
    s.readVal a =
      (if a.toNat ≤ 0x7FFF then s.cart.rom.read (s.romOffset a)
       else if a.toNat ≤ 0x9FFF then s.periphValue a
       else if a.toNat ≤ 0xBFFF then s.ramRead a
       else if a.toNat ≤ 0xDFFF then s.wram.read (a.toNat - 0xC000)
       else if a.toNat ≤ 0xFDFF then s.readVal (a - 0x2000)
       else if a.toNat ≤ 0xFE9F then s.periphValue a
       else if a.toNat ≤ 0xFEFF then s.cfg.openBus
       else if a = 0xFF0F then 0xE0 ||| s.ifr.setWidth 8
       else if a.toNat ≤ 0xFF7F then (if a ∈ s.cfg.periphMapped then s.periphValue a else s.cfg.openBus)
       else if a.toNat ≤ 0xFFFE then s.hram.read (a.toNat - 0xFF80)
       else 0xE0 ||| s.ie.setWidth 8) ∧
    (s.readEff a = s ∨
      (s.cfg.periph = .oracle ∧ s.servedByPeriph a = true ∧ s.readEff a = { s with draws := s.draws + 1 })) ∧
    (s.servedByPeriph a = true ↔
      (0x8000 ≤ a.toNat ∧ a.toNat ≤ 0x9FFF) ∨ (0xFE00 ≤ a.toNat ∧ a.toNat ≤ 0xFE9F) ∨
      (0xFF00 ≤ a.toNat ∧ a.toNat ≤ 0xFF7F ∧ a ≠ 0xFF0F ∧ a ∈ s.cfg.periphMapped))

/-- A write of v at a does, by the first test that holds: the control decode of the bank controller, a
peripheral write, a RAM-window write, WRAM[a - 0xC000] <- v, WRAM[a - 0xE000] <- v (the write at a -
0x2000), a peripheral write, nothing, IF <- v & 0x1F, a peripheral write if a is in PERIPH_MAPPED and else
nothing, HRAM[a - 0xFF80] <- v, IE <- v & 0x1F. A write to an oracle peripheral sets the drawn mask in IF
and counts one draw, and a write to the reference stub changes the storage of the stub; neither changes a
register or a byte storage of the block. The drawn mask as a free value of a draw counter, and the stub as
storage of the model, are choices of the model (log entries 3 and 4). (20_memory.md section 2, R96, R100,
R101) -/
def Obligations.BusWriteByAddress : Prop :=
  ∀ (s : State) (a : Word) (v : Byte),
    s.busWrite a v =
      (if a.toNat ≤ 0x7FFF then { s with mbc := s.mbc.control (controlWindow a) v }
       else if a.toNat ≤ 0x9FFF then s.periphWrite a v
       else if a.toNat ≤ 0xBFFF then s.ramWrite a v
       else if a.toNat ≤ 0xDFFF then { s with wram := s.wram.write (a.toNat - 0xC000) v }
       else if a.toNat ≤ 0xFDFF then s.busWrite (a - 0x2000) v
       else if a.toNat ≤ 0xFE9F then s.periphWrite a v
       else if a.toNat ≤ 0xFEFF then s
       else if a = 0xFF0F then { s with ifr := v.setWidth 5 }
       else if a.toNat ≤ 0xFF7F then (if a ∈ s.cfg.periphMapped then s.periphWrite a v else s)
       else if a.toNat ≤ 0xFFFE then { s with hram := s.hram.write (a.toNat - 0xFF80) v }
       else { s with ie := v.setWidth 5 }) ∧
    (s.cfg.periph = .oracle → s.periphWrite a v = { s with
      ifr := s.ifr ||| (Config.periphWrite s.draws a v).setWidth 5, draws := s.draws + 1 }) ∧
    (s.cfg.periph = .stub → s.periphWrite a v = { s with stub := (s.periphWrite a v).stub })

/-- In every well-formed state, after a bus write of v at a, a read at a returns v in work RAM, its mirror, high
RAM, enabled cartridge RAM and (with the reference stub) a served peripheral address, and 0xE0 | v at IF and
IE; a write in work RAM below 0xDE00 is read back at its mirror address too; a write to a selected RTC
register is read back once the clock is latched, in the register bits that exist. (20_memory.md section 2,
R44, R45, R47, R48, R97, R101, R131, R144) -/
def Obligations.WriteThenReadBack : Prop :=
  ∀ (s : State) (a : Word) (v : Byte), s.Inv →
    (0xC000 ≤ a.toNat ∧ a.toNat ≤ 0xFDFF → (s.busWrite a v).readVal a = v) ∧
    (0xC000 ≤ a.toNat ∧ a.toNat ≤ 0xDDFF → (s.busWrite a v).readVal (a + 0x2000) = v) ∧
    (0xFF80 ≤ a.toNat ∧ a.toNat ≤ 0xFFFE → (s.busWrite a v).readVal a = v) ∧
    (a = 0xFF0F ∨ a = 0xFFFF → (s.busWrite a v).readVal a = 0xE0 ||| v) ∧
    (0xA000 ≤ a.toNat ∧ a.toNat ≤ 0xBFFF → (∃ offset, s.ramTarget a = .cram offset) →
      (s.busWrite a v).readVal a = v) ∧
    (s.cfg.periph = .stub → s.servedByPeriph a = true → (s.busWrite a v).readVal a = v) ∧
    (∀ reg, 0xA000 ≤ a.toNat ∧ a.toNat ≤ 0xBFFF → s.ramTarget a = .rtc reg →
      (s.busWrite a v).readVal a = s.readVal a ∧
      (((s.busWrite a v).busWrite 0x6000 0x00).busWrite 0x6000 0x01).readVal a =
        v &&& (match reg with
          | .s => 0x3F
          | .m => 0x3F
          | .hr => 0x1F
          | .dl => 0xFF
          | .dh => 0xC1))

/-- In every state and for every a, v and x: unless the write at a can reach x, a read at x after it returns
what it returned before. A write reaches: in work RAM its own address and its mirror or original; at an
enabled cartridge RAM byte every window address of the same offset; at IF, HRAM and IE its own address; at a
control window the switchable ROM window and the RAM window; at a served peripheral address the served
addresses and IF; at a disabled RAM window, an RTC register, the unusable region or an unmapped offset
nothing. (20_memory.md section 2, R85, R93, R96, R97) -/
def Obligations.BusWriteFrame : Prop :=
  ∀ (s : State) (a x : Word) (v : Byte),
    (s.writeReaches a x = false → (s.busWrite a v).readVal x = s.readVal x) ∧
    (a.toNat ≤ 0x7FFF → (s.writeReaches a x = true ↔
      (0x4000 ≤ x.toNat ∧ x.toNat ≤ 0x7FFF) ∨ (0xA000 ≤ x.toNat ∧ x.toNat ≤ 0xBFFF))) ∧
    (0xC000 ≤ a.toNat ∧ a.toNat ≤ 0xDFFF → (s.writeReaches a x = true ↔
      x = a ∨ (a.toNat ≤ 0xDDFF ∧ x = a + 0x2000))) ∧
    (0xE000 ≤ a.toNat ∧ a.toNat ≤ 0xFDFF → (s.writeReaches a x = true ↔ x = a ∨ x = a - 0x2000)) ∧
    (a = 0xFF0F ∨ 0xFF80 ≤ a.toNat → (s.writeReaches a x = true ↔ x = a)) ∧
    (0xFEA0 ≤ a.toNat ∧ a.toNat ≤ 0xFEFF → s.writeReaches a x = false) ∧
    (0xA000 ≤ a.toNat ∧ a.toNat ≤ 0xBFFF → (s.writeReaches a x = true ↔
      (0xA000 ≤ x.toNat ∧ x.toNat ≤ 0xBFFF) ∧
        ∃ offset, s.ramTarget a = .cram offset ∧ s.ramTarget x = .cram offset)) ∧
    (s.servedByPeriph a = true → (s.writeReaches a x = true ↔ s.servedByPeriph x = true ∨ x = 0xFF0F)) ∧
    (0xFF00 ≤ a.toNat ∧ a.toNat ≤ 0xFF7F ∧ a ≠ 0xFF0F ∧ a ∉ s.cfg.periphMapped → s.writeReaches a x = false)

/-- On an MBC1 cartridge a write to 0x0000-0x1FFF sets ram_enable to (v & 0x0F = 0x0A), to 0x2000-0x3FFF sets
bank1 to v & 0x1F or to 1 if that is 0, to 0x4000-0x5FFF sets bank2 to v & 3 and to 0x6000-0x7FFF sets mode
to v & 1, and changes nothing else. The fixed window reads image offset a; the switchable window reads bank
(bank2 * 32 + bank1 in mode 0, bank1 in mode 1) mod rom_banks. The RAM window reads and writes offset (rbank
* 0x2000 + a - 0xA000) mod ram_size, with rbank = bank2 in mode 1 and 0 in mode 0, and RAM_DISABLED_VALUE
when disabled or absent. (R130, R131, R132, R133, R134, R135) -/
def Obligations.Mbc1Banking : Prop :=
  ∀ (s : State) (m : Mbc1) (a : Word) (v : Byte), s.mbc = .mbc1 m →
    (a.toNat ≤ 0x1FFF → s.busWrite a v =
      { s with mbc := .mbc1 { m with ramEnable := decide (v.toNat % 16 = 10) } }) ∧
    (0x2000 ≤ a.toNat ∧ a.toNat ≤ 0x3FFF → s.busWrite a v = { s with mbc := .mbc1 { m with
      bank1 := BitVec.ofNat 5 (if v.toNat % 32 = 0 then 1 else v.toNat % 32) } }) ∧
    (0x4000 ≤ a.toNat ∧ a.toNat ≤ 0x5FFF → s.busWrite a v =
      { s with mbc := .mbc1 { m with bank2 := BitVec.ofNat 2 (v.toNat % 4) } }) ∧
    (0x6000 ≤ a.toNat ∧ a.toNat ≤ 0x7FFF → s.busWrite a v =
      { s with mbc := .mbc1 { m with mode := BitVec.ofNat 1 (v.toNat % 2) } }) ∧
    (a.toNat ≤ 0x3FFF → s.readVal a = s.cart.rom.read a.toNat) ∧
    (0x4000 ≤ a.toNat ∧ a.toNat ≤ 0x7FFF → s.readVal a = s.cart.rom.read
      ((if m.mode = 0 then 32 * m.bank2.toNat + m.bank1.toNat else m.bank1.toNat) % s.cart.romBanks * 0x4000
        + (a.toNat - 0x4000))) ∧
    (0xA000 ≤ a.toNat ∧ a.toNat ≤ 0xBFFF →
      (m.ramEnable = false ∨ s.cart.ramSize = 0 →
        s.readVal a = s.cfg.ramDisabledValue ∧ s.busWrite a v = s) ∧
      (m.ramEnable = true ∧ s.cart.ramSize ≠ 0 →
        let offset := ((if m.mode = 1 then m.bank2.toNat else 0) * 0x2000 + (a.toNat - 0xA000)) % s.cart.ramSize
        s.readVal a = s.cram.read offset ∧ s.busWrite a v = { s with cram := s.cram.write offset v }))

/-- On an MBC3 cartridge a write to 0x0000-0x1FFF sets ram_enable to (v & 0x0F = 0x0A), to 0x2000-0x3FFF sets
rom_bank to v & 0x7F or to 1 if that is 0, to 0x4000-0x5FFF sets sel to v if v is 0 to 3, or 0x08 to 0x0C
with a clock, and is ignored otherwise, and to 0x6000-0x7FFF latches all five registers if there is a clock
and the last value written there was 0x00 and v is 0x01, and records v. The switchable ROM window reads bank
rom_bank mod rom_banks. The RAM window, when enabled, reads and writes cartridge RAM while sel is 0 to 3
(RAM_DISABLED_VALUE if absent), and otherwise reads the latched register and writes the live one. (R140,
R141, R142, R144, R145, R147) -/
def Obligations.Mbc3Banking : Prop :=
  ∀ (s : State) (m : Mbc3) (a : Word) (v : Byte), s.mbc = .mbc3 m →
    (a.toNat ≤ 0x1FFF → s.busWrite a v =
      { s with mbc := .mbc3 { m with ramEnable := decide (v.toNat % 16 = 10) } }) ∧
    (0x2000 ≤ a.toNat ∧ a.toNat ≤ 0x3FFF → s.busWrite a v = { s with mbc := .mbc3 { m with
      romBank := BitVec.ofNat 7 (if v.toNat % 128 = 0 then 1 else v.toNat % 128) } }) ∧
    (0x4000 ≤ a.toNat ∧ a.toNat ≤ 0x5FFF → ∃ sel, s.busWrite a v = { s with mbc := .mbc3 { m with sel := sel } } ∧
      (v.toNat ≤ 3 ∨ (m.hasRtc = true ∧ 0x08 ≤ v.toNat ∧ v.toNat ≤ 0x0C) → sel.toByte = v) ∧
      (¬ (v.toNat ≤ 3 ∨ (m.hasRtc = true ∧ 0x08 ≤ v.toNat ∧ v.toNat ≤ 0x0C)) → sel = m.sel)) ∧
    (0x6000 ≤ a.toNat ∧ a.toNat ≤ 0x7FFF →
      (m.hasRtc = true ∧ m.latchPrev = 0x00 ∧ v = 0x01 → s.busWrite a v =
        { s with mbc := .mbc3 { m with latched := m.live, latchPrev := v } }) ∧
      (¬ (m.hasRtc = true ∧ m.latchPrev = 0x00 ∧ v = 0x01) → s.busWrite a v =
        { s with mbc := .mbc3 { m with latchPrev := v } })) ∧
    (a.toNat ≤ 0x3FFF → s.readVal a = s.cart.rom.read a.toNat) ∧
    (0x4000 ≤ a.toNat ∧ a.toNat ≤ 0x7FFF → s.readVal a = s.cart.rom.read
      (m.romBank.toNat % s.cart.romBanks * 0x4000 + (a.toNat - 0x4000))) ∧
    (0xA000 ≤ a.toNat ∧ a.toNat ≤ 0xBFFF →
      (m.ramEnable = false → s.readVal a = s.cfg.ramDisabledValue ∧ s.busWrite a v = s) ∧
      (∀ bank, m.ramEnable = true → m.sel = .ram bank → s.cart.ramSize = 0 →
        s.readVal a = s.cfg.ramDisabledValue ∧ s.busWrite a v = s) ∧
      (∀ bank, m.ramEnable = true → m.sel = .ram bank → s.cart.ramSize ≠ 0 →
        let offset := (bank.toNat * 0x2000 + (a.toNat - 0xA000)) % s.cart.ramSize
        s.readVal a = s.cram.read offset ∧ s.busWrite a v = { s with cram := s.cram.write offset v }) ∧
      (∀ reg, m.ramEnable = true → m.sel = .rtc reg →
        s.readVal a = m.latched.read reg ∧
        s.busWrite a v = { s with mbc := .mbc3 { m with live := m.live.write v reg } }))

/-- For a live clock that runs and whose registers are in their normal ranges, rtc_advance(n) leaves the
registers in range, makes the time shown greater by n seconds modulo 512 days, sets the day carry if it was
set or the sum passed 512 days, and keeps halt = 0; a halted clock does not change. Nothing but the live
clock of an MBC3 with a clock changes: not the latched copy, nor any other state, nor any cartridge without
a clock. (20_memory.md section 6, R143, R146, R441) -/
def Obligations.ClockKeepsTimeOfDay : Prop :=
  (∀ (k : Rtc) (n : Nat), k.halt = false → k.inRange = true →
    (k.advance n).inRange = true ∧ (k.advance n).halt = false ∧
    (k.advance n).seconds = (k.seconds + n) % (512 * 86400) ∧
    (k.advance n).carry = (k.carry || decide (512 * 86400 ≤ k.seconds + n))) ∧
  (∀ (k : Rtc) (n : Nat), k.halt = true → k.advance n = k) ∧
  (∀ (s : State) (m : Mbc3) (n : Nat), s.mbc = .mbc3 m → m.hasRtc = true →
    s.rtcAdvance n = { s with mbc := .mbc3 { m with live := m.live.advance n } }) ∧
  ∀ (s : State) (n : Nat), (∀ m, s.mbc = .mbc3 m → m.hasRtc = false) → s.rtcAdvance n = s

/-- For a cartridge with the bank count and RAM size of a header and a ROM-only cartridge of two banks, every
address below 0x8000 translates to an offset below rom_banks * 0x4000 in every banking state, and every
address of the RAM window that reaches cartridge RAM reaches an offset below ram_size. (20_memory.md
sections 3 to 6, R123, R124, R125, R135, R147, R120, R122) -/
def Obligations.TranslationStaysInTheImage : Prop :=
  ∀ (s : State) (a : Word), s.cart.Ok → (s.mbc = .romOnly → s.cart.romBanks = 2) →
    (a.toNat < 0x8000 → s.romOffset a < s.cart.romBanks * 0x4000) ∧
    ∀ offset, s.ramTarget a = .cram offset → offset < s.cart.ramSize

/-- For every image: shorter than 0x150 bytes it is Truncated; else with a type byte outside the table
UnsupportedCartridgeType; else with a rom_code above 8 or a ram_code above 5 BadHeader; else with a length
other than 0x8000 << rom_code, or type 0 with rom_code not 0, SizeMismatch; else load succeeds with the
variant of the table, rom_banks = 2 << rom_code, and ram_size of the ram_code table (0 for ROM-only). (R121,
R122) -/
def Obligations.LoadChecksTheImage : Prop :=
  ∀ (cfg : Config) (img : Image) (dr : Draws),
    let ty := (img.byte 0x0147).toNat
    let romCode := (img.byte 0x0148).toNat
    let ramCode := (img.byte 0x0149).toNat
    let known := ty = 0x00 ∨ (0x01 ≤ ty ∧ ty ≤ 0x03) ∨ (0x0F ≤ ty ∧ ty ≤ 0x13)
    let codes := romCode ≤ 8 ∧ ramCode ≤ 5
    let sizes := img.size = 0x8000 * 2 ^ romCode ∧ (ty = 0x00 → romCode = 0)
    (img.size < 0x0150 → State.load cfg img dr = .error .truncated) ∧
    (¬ img.size < 0x0150 → ¬ known → State.load cfg img dr = .error .unsupportedCartridgeType) ∧
    (¬ img.size < 0x0150 → known → ¬ codes → State.load cfg img dr = .error .badHeader) ∧
    (¬ img.size < 0x0150 → known → codes → ¬ sizes → State.load cfg img dr = .error .sizeMismatch) ∧
    (¬ img.size < 0x0150 → known → codes → sizes → ∃ s, State.load cfg img dr = .ok s ∧
      s.cart.romBanks = 2 * 2 ^ romCode ∧
      (ty = 0x00 → s.mbc = .romOnly ∧ s.cart.ramSize = 0) ∧
      (0x01 ≤ ty ∧ ty ≤ 0x03 → ∃ m, s.mbc = .mbc1 m) ∧
      (0x0F ≤ ty ∧ ty ≤ 0x10 → ∃ m, s.mbc = .mbc3 m ∧ m.hasRtc = true) ∧
      (0x11 ≤ ty ∧ ty ≤ 0x13 → ∃ m, s.mbc = .mbc3 m ∧ m.hasRtc = false) ∧
      (ty ≠ 0x00 → s.cart.ramSize = [0, 2048, 8192, 32768, 131072, 65536].getD ramCode 0))

/-- For every well-formed state, import of its export gives the same state, also into any console with the same
parameters, cartridge, controller variant and peripheral record, whatever its other state, its fault and
mode included. For every console and save state: if F[3:0] is not 0, IE or IF is above 0x1F, a storage is
out of canonical form or size, or the banking state is not one of the variant of the console with every bank
value in its field width and range, the import is refused and changes nothing; otherwise it is accepted, the
export of the new state is that save state (so every field of R54 is replaced), and the parameters, the
cartridge and the peripheral record stay. That bank1 = 0, rom_bank = 0, an RTC select without a clock,
unused RTC bits and another variant are refused, and that fault and mode are replaced too, is how the model
reads the spec (log entry 13). (60_exceptions.md section 7, R441, R443, R50, R51, R54, R143) -/
def Obligations.ImportOfExportIsTheSameState : Prop :=
  (∀ s : State, s.Inv → s.restore s.saveState = .ok s) ∧
  (∀ s t : State, s.Inv → t.cfg = s.cfg → t.cart = s.cart → Mbc.sameVariant t.mbc s.mbc = true →
    t.draws = s.draws → t.stub = s.stub → t.restore s.saveState = .ok s) ∧
  ∀ (s : State) (sv : SaveState),
    let clock := fun (r : RtcBytes) =>
      r.s.toNat < 64 ∧ r.m.toNat < 64 ∧ r.hr.toNat < 32 ∧ r.dh &&& 0x3E = 0
    let banking : Prop :=
      match s.mbc, sv.mbc with
      | .romOnly, .romOnly => True
      | .mbc1 _, .mbc1 _ bank1 bank2 mode =>
        1 ≤ bank1.toNat ∧ bank1.toNat ≤ 31 ∧ bank2.toNat ≤ 3 ∧ mode.toNat ≤ 1
      | .mbc3 m, .mbc3 _ romBank sel _ live latched =>
        1 ≤ romBank.toNat ∧ romBank.toNat ≤ 127 ∧
        (sel.toNat ≤ 0x03 ∨ (m.hasRtc = true ∧ 0x08 ≤ sel.toNat ∧ sel.toNat ≤ 0x0C)) ∧
        clock live ∧ clock latched
      | _, _ => False
    let good : Prop := sv.f &&& 0x0F = 0 ∧ sv.ie.toNat < 0x20 ∧ sv.ifr.toNat < 0x20 ∧
      Memory.wf 0x2000 sv.wram = true ∧ Memory.wf 0x7F sv.hram = true ∧
      Memory.wf s.cart.ramSize sv.cram = true ∧ banking
    (¬ good → s.restore sv = .error .illFormed ∧ (HostAction.restoreFrom sv).apply s = s) ∧
    (good → ∃ t, s.restore sv = .ok t ∧ (HostAction.restoreFrom sv).apply s = t ∧ t.saveState = sv ∧
      t.cfg = s.cfg ∧ t.cart = s.cart ∧ t.draws = s.draws ∧ t.stub = s.stub)

/-- For every state and draws, reset keeps the cartridge, the variant, cartridge RAM and the live and latched
clocks, and sets every other field as a load does: no fault, clock 0, mode Running, IME = 0, ei_pending = 0,
PC = 0x0100, IE = 0, ram_enable false, the bank registers and latch_prev = 0xFF at their load values, and
work RAM and high RAM drawn again; under DMG_POST_BOOT the registers and IF are those of the reset table,
and under UNSPECIFIED they are draws, with F[3:0] = 0. That a reset draws them again under UNSPECIFIED is a
choice of the model (log entry 15). (60_exceptions.md section 7, R444, R55, R56) -/
def Obligations.HostResetKeepsCartridgeMemory : Prop :=
  ∀ (s : State) (dr : Draws),
    let t := s.hostReset dr
    t.cfg = s.cfg ∧ t.cart = s.cart ∧ t.cram = s.cram ∧ Mbc.sameVariant s.mbc t.mbc = true ∧
    t.mbc.liveClock = s.mbc.liveClock ∧ t.mbc.latched = s.mbc.latched ∧
    t.fault = none ∧ t.clock = 0 ∧ t.mode = .running ∧ t.ime = false ∧ t.eiPending = false ∧ t.pc = 0x0100 ∧
    t.ie = 0 ∧ t.wram = Memory.ofCells 0x2000 dr.wram ∧ t.hram = Memory.ofCells 0x7F dr.hram ∧
    (∀ m, t.mbc = .mbc1 m → m = { ramEnable := false, bank1 := 1, bank2 := 0, mode := 0 }) ∧
    (∀ m, t.mbc = .mbc3 m → m.ramEnable = false ∧ m.romBank = 1 ∧ m.sel = .ram 0 ∧ m.latchPrev = 0xFF) ∧
    (s.cfg.resetProfile = .dmgPostBoot →
      t.a = 0x01 ∧ t.f = 0xB0 ∧ t.b = 0x00 ∧ t.c = 0x13 ∧ t.d = 0x00 ∧ t.e = 0xD8 ∧ t.h = 0x01 ∧ t.l = 0x4D ∧
      t.sp = 0xFFFE ∧ t.ifr = 0x01) ∧
    (s.cfg.resetProfile = .unspecified →
      t.a = dr.a ∧ t.f = dr.f &&& 0xF0 ∧ t.b = dr.b ∧ t.c = dr.c ∧ t.d = dr.d ∧ t.e = dr.e ∧ t.h = dr.h ∧
      t.l = dr.l ∧ t.sp = dr.sp ∧ t.ifr = dr.ifr)
end

