-- ==== Sys2Proof/Laws/Memory.lean ====
section
/-! SUPPORT. The laws of byte storage: read after write, and that every operation keeps the canonical form. -/

namespace Sys2Proof.Machine

@[simp] theorem Memory.read_nil (k : Nat) : Memory.read [] k = Memory.unlisted := rfl

/-- Below its first possible index a canonical storage lists nothing. -/
theorem Memory.read_below {size lo k : Nat} {m : Memory} (h : Memory.wfFrom size lo m = true) (hk : k < lo) :
    m.read k = Memory.unlisted := by
  induction m generalizing lo with
  | nil => rfl
  | cons cell rest ih =>
    obtain ⟨k', v⟩ := cell
    simp only [Memory.wfFrom, Bool.and_eq_true, decide_eq_true_eq] at h
    have hne : k' ≠ k := by omega
    rw [Memory.read, if_neg hne]
    exact ih h.2 (by omega)

theorem Memory.read_entry_same {size k : Nat} {rest : Memory} (h : Memory.wfFrom size (k + 1) rest = true)
    (v : Byte) : (Memory.entry k v rest).read k = v := by
  unfold Memory.entry
  split
  next hv => rw [Memory.read_below h (Nat.lt_succ_self k), hv]
  next => simp [Memory.read]

theorem Memory.read_entry_other {k x : Nat} (hx : x ≠ k) (v : Byte) (rest : Memory) :
    (Memory.entry k v rest).read x = rest.read x := by
  unfold Memory.entry
  split
  · rfl
  · rw [Memory.read, if_neg (Ne.symm hx)]

/-- A write leaves every other index alone, in any storage. -/
theorem Memory.read_write_other {k x : Nat} (hx : x ≠ k) (v : Byte) (m : Memory) :
    (m.write k v).read x = m.read x := by
  induction m with
  | nil => exact Memory.read_entry_other hx v []
  | cons cell rest ih =>
    obtain ⟨k', v'⟩ := cell
    rw [Memory.write]
    split
    · exact Memory.read_entry_other hx v _
    · split
      next heq =>
        subst heq
        rw [Memory.read_entry_other hx, Memory.read, if_neg (Ne.symm hx)]
      next => simp only [Memory.read, ih]

theorem Memory.wfFrom_mono {size lo lo' : Nat} {m : Memory} (h : Memory.wfFrom size lo m = true)
    (hlo : lo' ≤ lo) : Memory.wfFrom size lo' m = true := by
  cases m with
  | nil => rfl
  | cons cell rest =>
    obtain ⟨k, v⟩ := cell
    simp only [Memory.wfFrom, Bool.and_eq_true, decide_eq_true_eq] at h ⊢
    exact ⟨⟨⟨by omega, h.1.1.2⟩, h.1.2⟩, h.2⟩

theorem Memory.wfFrom_entry {size lo k : Nat} {rest : Memory} (hlo : lo ≤ k) (hk : k < size)
    (h : Memory.wfFrom size (k + 1) rest = true) (v : Byte) :
    Memory.wfFrom size lo (Memory.entry k v rest) = true := by
  unfold Memory.entry
  split
  · exact Memory.wfFrom_mono h (by omega)
  next hv =>
    simp only [Memory.wfFrom, Bool.and_eq_true, decide_eq_true_eq]
    exact ⟨⟨⟨hlo, hk⟩, hv⟩, h⟩

theorem Memory.wfFrom_write {size lo k : Nat} {m : Memory} (hlo : lo ≤ k) (hk : k < size)
    (h : Memory.wfFrom size lo m = true) (v : Byte) : Memory.wfFrom size lo (m.write k v) = true := by
  induction m generalizing lo with
  | nil => exact Memory.wfFrom_entry hlo hk rfl v
  | cons cell rest ih =>
    obtain ⟨k', v'⟩ := cell
    simp only [Memory.wfFrom, Bool.and_eq_true, decide_eq_true_eq] at h
    rw [Memory.write]
    split
    next hlt =>
      refine Memory.wfFrom_entry hlo hk ?_ v
      simp only [Memory.wfFrom, Bool.and_eq_true, decide_eq_true_eq]
      exact ⟨⟨⟨hlt, h.1.1.2⟩, h.1.2⟩, h.2⟩
    next hge =>
      split
      next heq =>
        subst heq
        exact Memory.wfFrom_entry hlo hk h.2 v
      next hne =>
        simp only [Memory.wfFrom, Bool.and_eq_true, decide_eq_true_eq]
        exact ⟨h.1, ih (by omega) h.2⟩

/-- A write inside the storage keeps the canonical form. -/
theorem Memory.wf_write {size k : Nat} {m : Memory} (h : Memory.wf size m = true) (hk : k < size) (v : Byte) :
    Memory.wf size (m.write k v) = true :=
  Memory.wfFrom_write (Nat.zero_le k) hk h v

/-- A read after a write to the same index of a canonical storage gives the value written. -/
theorem Memory.read_write_same {size lo k : Nat} {m : Memory} (h : Memory.wfFrom size lo m = true)
    (v : Byte) : (m.write k v).read k = v := by
  induction m generalizing lo with
  | nil => exact Memory.read_entry_same (size := size) rfl v
  | cons cell rest ih =>
    obtain ⟨k', v'⟩ := cell
    simp only [Memory.wfFrom, Bool.and_eq_true, decide_eq_true_eq] at h
    rw [Memory.write]
    split
    next hlt =>
      refine Memory.read_entry_same (size := size) ?_ v
      simp only [Memory.wfFrom, Bool.and_eq_true, decide_eq_true_eq]
      exact ⟨⟨⟨hlt, h.1.1.2⟩, h.1.2⟩, h.2⟩
    next =>
      split
      next heq =>
        subst heq
        exact Memory.read_entry_same h.2 v
      next hne =>
        rw [Memory.read, if_neg (Ne.symm hne)]
        exact ih h.2

theorem Memory.wf_nil (size : Nat) : Memory.wf size [] = true := rfl

/-- A storage made from any list of cells is canonical. -/
theorem Memory.wf_ofCells (size : Nat) (cells : List Host.Cell) :
    Memory.wf size (Memory.ofCells size cells) = true := by
  unfold Memory.ofCells
  suffices h : ∀ (m : Memory), Memory.wf size m = true →
      Memory.wf size (cells.foldl (fun m cell => if cell.1 < size then m.write cell.1 cell.2 else m) m) = true from
    h [] (Memory.wf_nil size)
  induction cells with
  | nil => intro m h; exact h
  | cons cell rest ih =>
    intro m h
    rw [List.foldl_cons]
    apply ih
    split
    next hk => exact Memory.wf_write h hk cell.2
    · exact h

/-- Two canonical storages that read alike at every index are equal: the form is canonical. -/
theorem Memory.ext_of_read {size lo : Nat} {m m' : Memory} (h : Memory.wfFrom size lo m = true)
    (h' : Memory.wfFrom size lo m' = true) (hr : ∀ k, m.read k = m'.read k) : m = m' := by
  induction m generalizing lo m' with
  | nil =>
    cases m' with
    | nil => rfl
    | cons cell rest =>
      obtain ⟨k, v⟩ := cell
      simp only [Memory.wfFrom, Bool.and_eq_true, decide_eq_true_eq] at h'
      exact absurd (by simpa [Memory.read] using (hr k).symm) h'.1.2
  | cons cell rest ih =>
    obtain ⟨k, v⟩ := cell
    have hw := h
    simp only [Memory.wfFrom, Bool.and_eq_true, decide_eq_true_eq] at hw
    cases m' with
    | nil => exact absurd (by simpa [Memory.read] using hr k) hw.1.2
    | cons cell' rest' =>
      obtain ⟨k', v'⟩ := cell'
      have hw' := h'
      simp only [Memory.wfFrom, Bool.and_eq_true, decide_eq_true_eq] at hw'
      have hkk : k = k' := by
        rcases Nat.lt_trichotomy k k' with hlt | heq | hgt
        · have h1 := hr k
          rw [Memory.read, if_pos rfl, Memory.read, if_neg (by omega), Memory.read_below hw'.2 (by omega)] at h1
          exact absurd h1 hw.1.2
        · exact heq
        · have h1 := hr k'
          rw [Memory.read, if_neg (by omega), Memory.read_below hw.2 (by omega), Memory.read, if_pos rfl] at h1
          exact absurd h1.symm hw'.1.2
      subst hkk
      have hv : v = v' := by simpa [Memory.read] using hr k
      subst hv
      have hrest : rest = rest' := by
        refine ih hw.2 hw'.2 fun x => ?_
        by_cases hx : x < k + 1
        · rw [Memory.read_below hw.2 hx, Memory.read_below hw'.2 hx]
        · have h1 := hr x
          rwa [Memory.read, if_neg (by omega), Memory.read, if_neg (by omega)] at h1
      rw [hrest]

end Sys2Proof.Machine
end

