-- ==== Sys2Proof/Laws/State.lean ====
section
/-! SUPPORT. One simp lemma for each field and each named update of State, so that no later proof unfolds a
record update. A field that an update may change and that has no closed form has no lemma here. -/

namespace Sys2Proof.Machine

/-! ### setFlags, setHL, tick -/

@[simp] theorem State.setFlags_cfg (fl : Flags) (s : State) : (s.setFlags fl).cfg = s.cfg := rfl
@[simp] theorem State.setFlags_cart (fl : Flags) (s : State) : (s.setFlags fl).cart = s.cart := rfl
@[simp] theorem State.setFlags_a (fl : Flags) (s : State) : (s.setFlags fl).a = s.a := rfl
@[simp] theorem State.setFlags_f (fl : Flags) (s : State) : (s.setFlags fl).f = fl.toByte := rfl
@[simp] theorem State.setFlags_b (fl : Flags) (s : State) : (s.setFlags fl).b = s.b := rfl
@[simp] theorem State.setFlags_c (fl : Flags) (s : State) : (s.setFlags fl).c = s.c := rfl
@[simp] theorem State.setFlags_d (fl : Flags) (s : State) : (s.setFlags fl).d = s.d := rfl
@[simp] theorem State.setFlags_e (fl : Flags) (s : State) : (s.setFlags fl).e = s.e := rfl
@[simp] theorem State.setFlags_h (fl : Flags) (s : State) : (s.setFlags fl).h = s.h := rfl
@[simp] theorem State.setFlags_l (fl : Flags) (s : State) : (s.setFlags fl).l = s.l := rfl
@[simp] theorem State.setFlags_sp (fl : Flags) (s : State) : (s.setFlags fl).sp = s.sp := rfl
@[simp] theorem State.setFlags_pc (fl : Flags) (s : State) : (s.setFlags fl).pc = s.pc := rfl
@[simp] theorem State.setFlags_ime (fl : Flags) (s : State) : (s.setFlags fl).ime = s.ime := rfl
@[simp] theorem State.setFlags_eiPending (fl : Flags) (s : State) : (s.setFlags fl).eiPending = s.eiPending := rfl
@[simp] theorem State.setFlags_mode (fl : Flags) (s : State) : (s.setFlags fl).mode = s.mode := rfl
@[simp] theorem State.setFlags_clock (fl : Flags) (s : State) : (s.setFlags fl).clock = s.clock := rfl
@[simp] theorem State.setFlags_fault (fl : Flags) (s : State) : (s.setFlags fl).fault = s.fault := rfl
@[simp] theorem State.setFlags_ie (fl : Flags) (s : State) : (s.setFlags fl).ie = s.ie := rfl
@[simp] theorem State.setFlags_ifr (fl : Flags) (s : State) : (s.setFlags fl).ifr = s.ifr := rfl
@[simp] theorem State.setFlags_wram (fl : Flags) (s : State) : (s.setFlags fl).wram = s.wram := rfl
@[simp] theorem State.setFlags_hram (fl : Flags) (s : State) : (s.setFlags fl).hram = s.hram := rfl
@[simp] theorem State.setFlags_mbc (fl : Flags) (s : State) : (s.setFlags fl).mbc = s.mbc := rfl
@[simp] theorem State.setFlags_cram (fl : Flags) (s : State) : (s.setFlags fl).cram = s.cram := rfl
@[simp] theorem State.setFlags_draws (fl : Flags) (s : State) : (s.setFlags fl).draws = s.draws := rfl
@[simp] theorem State.setFlags_stub (fl : Flags) (s : State) : (s.setFlags fl).stub = s.stub := rfl
@[simp] theorem State.setHL_cfg (v : Word) (s : State) : (s.setHL v).cfg = s.cfg := rfl
@[simp] theorem State.setHL_cart (v : Word) (s : State) : (s.setHL v).cart = s.cart := rfl
@[simp] theorem State.setHL_a (v : Word) (s : State) : (s.setHL v).a = s.a := rfl
@[simp] theorem State.setHL_f (v : Word) (s : State) : (s.setHL v).f = s.f := rfl
@[simp] theorem State.setHL_b (v : Word) (s : State) : (s.setHL v).b = s.b := rfl
@[simp] theorem State.setHL_c (v : Word) (s : State) : (s.setHL v).c = s.c := rfl
@[simp] theorem State.setHL_d (v : Word) (s : State) : (s.setHL v).d = s.d := rfl
@[simp] theorem State.setHL_e (v : Word) (s : State) : (s.setHL v).e = s.e := rfl
@[simp] theorem State.setHL_h (v : Word) (s : State) : (s.setHL v).h = hiByte v := rfl
@[simp] theorem State.setHL_l (v : Word) (s : State) : (s.setHL v).l = loByte v := rfl
@[simp] theorem State.setHL_sp (v : Word) (s : State) : (s.setHL v).sp = s.sp := rfl
@[simp] theorem State.setHL_pc (v : Word) (s : State) : (s.setHL v).pc = s.pc := rfl
@[simp] theorem State.setHL_ime (v : Word) (s : State) : (s.setHL v).ime = s.ime := rfl
@[simp] theorem State.setHL_eiPending (v : Word) (s : State) : (s.setHL v).eiPending = s.eiPending := rfl
@[simp] theorem State.setHL_mode (v : Word) (s : State) : (s.setHL v).mode = s.mode := rfl
@[simp] theorem State.setHL_clock (v : Word) (s : State) : (s.setHL v).clock = s.clock := rfl
@[simp] theorem State.setHL_fault (v : Word) (s : State) : (s.setHL v).fault = s.fault := rfl
@[simp] theorem State.setHL_ie (v : Word) (s : State) : (s.setHL v).ie = s.ie := rfl
@[simp] theorem State.setHL_ifr (v : Word) (s : State) : (s.setHL v).ifr = s.ifr := rfl
@[simp] theorem State.setHL_wram (v : Word) (s : State) : (s.setHL v).wram = s.wram := rfl
@[simp] theorem State.setHL_hram (v : Word) (s : State) : (s.setHL v).hram = s.hram := rfl
@[simp] theorem State.setHL_mbc (v : Word) (s : State) : (s.setHL v).mbc = s.mbc := rfl
@[simp] theorem State.setHL_cram (v : Word) (s : State) : (s.setHL v).cram = s.cram := rfl
@[simp] theorem State.setHL_draws (v : Word) (s : State) : (s.setHL v).draws = s.draws := rfl
@[simp] theorem State.setHL_stub (v : Word) (s : State) : (s.setHL v).stub = s.stub := rfl
@[simp] theorem State.tick_cfg (t : Nat) (s : State) : (s.tick t).cfg = s.cfg := rfl
@[simp] theorem State.tick_cart (t : Nat) (s : State) : (s.tick t).cart = s.cart := rfl
@[simp] theorem State.tick_a (t : Nat) (s : State) : (s.tick t).a = s.a := rfl
@[simp] theorem State.tick_f (t : Nat) (s : State) : (s.tick t).f = s.f := rfl
@[simp] theorem State.tick_b (t : Nat) (s : State) : (s.tick t).b = s.b := rfl
@[simp] theorem State.tick_c (t : Nat) (s : State) : (s.tick t).c = s.c := rfl
@[simp] theorem State.tick_d (t : Nat) (s : State) : (s.tick t).d = s.d := rfl
@[simp] theorem State.tick_e (t : Nat) (s : State) : (s.tick t).e = s.e := rfl
@[simp] theorem State.tick_h (t : Nat) (s : State) : (s.tick t).h = s.h := rfl
@[simp] theorem State.tick_l (t : Nat) (s : State) : (s.tick t).l = s.l := rfl
@[simp] theorem State.tick_sp (t : Nat) (s : State) : (s.tick t).sp = s.sp := rfl
@[simp] theorem State.tick_pc (t : Nat) (s : State) : (s.tick t).pc = s.pc := rfl
@[simp] theorem State.tick_ime (t : Nat) (s : State) : (s.tick t).ime = s.ime := rfl
@[simp] theorem State.tick_eiPending (t : Nat) (s : State) : (s.tick t).eiPending = s.eiPending := rfl
@[simp] theorem State.tick_mode (t : Nat) (s : State) : (s.tick t).mode = s.mode := rfl
@[simp] theorem State.tick_clock (t : Nat) (s : State) : (s.tick t).clock = s.clock + cyclesIn s.cfg t := rfl
@[simp] theorem State.tick_fault (t : Nat) (s : State) : (s.tick t).fault = s.fault := rfl
@[simp] theorem State.tick_ie (t : Nat) (s : State) : (s.tick t).ie = s.ie := rfl
@[simp] theorem State.tick_ifr (t : Nat) (s : State) : (s.tick t).ifr = s.ifr := rfl
@[simp] theorem State.tick_wram (t : Nat) (s : State) : (s.tick t).wram = s.wram := rfl
@[simp] theorem State.tick_hram (t : Nat) (s : State) : (s.tick t).hram = s.hram := rfl
@[simp] theorem State.tick_mbc (t : Nat) (s : State) : (s.tick t).mbc = s.mbc := rfl
@[simp] theorem State.tick_cram (t : Nat) (s : State) : (s.tick t).cram = s.cram := rfl
@[simp] theorem State.tick_draws (t : Nat) (s : State) : (s.tick t).draws = s.draws := rfl
@[simp] theorem State.tick_stub (t : Nat) (s : State) : (s.tick t).stub = s.stub := rfl

/-! ### setR, setRR, setStk -/

@[simp] theorem State.setR_cfg (r : Reg8) (v : Byte) (s : State) : (s.setR r v).cfg = s.cfg := by cases r <;> rfl
@[simp] theorem State.setR_cart (r : Reg8) (v : Byte) (s : State) : (s.setR r v).cart = s.cart := by cases r <;> rfl
@[simp] theorem State.setR_f (r : Reg8) (v : Byte) (s : State) : (s.setR r v).f = s.f := by cases r <;> rfl
@[simp] theorem State.setR_sp (r : Reg8) (v : Byte) (s : State) : (s.setR r v).sp = s.sp := by cases r <;> rfl
@[simp] theorem State.setR_pc (r : Reg8) (v : Byte) (s : State) : (s.setR r v).pc = s.pc := by cases r <;> rfl
@[simp] theorem State.setR_ime (r : Reg8) (v : Byte) (s : State) : (s.setR r v).ime = s.ime := by cases r <;> rfl
@[simp] theorem State.setR_eiPending (r : Reg8) (v : Byte) (s : State) : (s.setR r v).eiPending = s.eiPending := by cases r <;> rfl
@[simp] theorem State.setR_mode (r : Reg8) (v : Byte) (s : State) : (s.setR r v).mode = s.mode := by cases r <;> rfl
@[simp] theorem State.setR_clock (r : Reg8) (v : Byte) (s : State) : (s.setR r v).clock = s.clock := by cases r <;> rfl
@[simp] theorem State.setR_fault (r : Reg8) (v : Byte) (s : State) : (s.setR r v).fault = s.fault := by cases r <;> rfl
@[simp] theorem State.setR_ie (r : Reg8) (v : Byte) (s : State) : (s.setR r v).ie = s.ie := by cases r <;> rfl
@[simp] theorem State.setR_ifr (r : Reg8) (v : Byte) (s : State) : (s.setR r v).ifr = s.ifr := by cases r <;> rfl
@[simp] theorem State.setR_wram (r : Reg8) (v : Byte) (s : State) : (s.setR r v).wram = s.wram := by cases r <;> rfl
@[simp] theorem State.setR_hram (r : Reg8) (v : Byte) (s : State) : (s.setR r v).hram = s.hram := by cases r <;> rfl
@[simp] theorem State.setR_mbc (r : Reg8) (v : Byte) (s : State) : (s.setR r v).mbc = s.mbc := by cases r <;> rfl
@[simp] theorem State.setR_cram (r : Reg8) (v : Byte) (s : State) : (s.setR r v).cram = s.cram := by cases r <;> rfl
@[simp] theorem State.setR_draws (r : Reg8) (v : Byte) (s : State) : (s.setR r v).draws = s.draws := by cases r <;> rfl
@[simp] theorem State.setR_stub (r : Reg8) (v : Byte) (s : State) : (s.setR r v).stub = s.stub := by cases r <;> rfl
@[simp] theorem State.setRR_cfg (rr : Reg16) (v : Word) (s : State) : (s.setRR rr v).cfg = s.cfg := by cases rr <;> rfl
@[simp] theorem State.setRR_cart (rr : Reg16) (v : Word) (s : State) : (s.setRR rr v).cart = s.cart := by cases rr <;> rfl
@[simp] theorem State.setRR_a (rr : Reg16) (v : Word) (s : State) : (s.setRR rr v).a = s.a := by cases rr <;> rfl
@[simp] theorem State.setRR_f (rr : Reg16) (v : Word) (s : State) : (s.setRR rr v).f = s.f := by cases rr <;> rfl
@[simp] theorem State.setRR_pc (rr : Reg16) (v : Word) (s : State) : (s.setRR rr v).pc = s.pc := by cases rr <;> rfl
@[simp] theorem State.setRR_ime (rr : Reg16) (v : Word) (s : State) : (s.setRR rr v).ime = s.ime := by cases rr <;> rfl
@[simp] theorem State.setRR_eiPending (rr : Reg16) (v : Word) (s : State) : (s.setRR rr v).eiPending = s.eiPending := by cases rr <;> rfl
@[simp] theorem State.setRR_mode (rr : Reg16) (v : Word) (s : State) : (s.setRR rr v).mode = s.mode := by cases rr <;> rfl
@[simp] theorem State.setRR_clock (rr : Reg16) (v : Word) (s : State) : (s.setRR rr v).clock = s.clock := by cases rr <;> rfl
@[simp] theorem State.setRR_fault (rr : Reg16) (v : Word) (s : State) : (s.setRR rr v).fault = s.fault := by cases rr <;> rfl
@[simp] theorem State.setRR_ie (rr : Reg16) (v : Word) (s : State) : (s.setRR rr v).ie = s.ie := by cases rr <;> rfl
@[simp] theorem State.setRR_ifr (rr : Reg16) (v : Word) (s : State) : (s.setRR rr v).ifr = s.ifr := by cases rr <;> rfl
@[simp] theorem State.setRR_wram (rr : Reg16) (v : Word) (s : State) : (s.setRR rr v).wram = s.wram := by cases rr <;> rfl
@[simp] theorem State.setRR_hram (rr : Reg16) (v : Word) (s : State) : (s.setRR rr v).hram = s.hram := by cases rr <;> rfl
@[simp] theorem State.setRR_mbc (rr : Reg16) (v : Word) (s : State) : (s.setRR rr v).mbc = s.mbc := by cases rr <;> rfl
@[simp] theorem State.setRR_cram (rr : Reg16) (v : Word) (s : State) : (s.setRR rr v).cram = s.cram := by cases rr <;> rfl
@[simp] theorem State.setRR_draws (rr : Reg16) (v : Word) (s : State) : (s.setRR rr v).draws = s.draws := by cases rr <;> rfl
@[simp] theorem State.setRR_stub (rr : Reg16) (v : Word) (s : State) : (s.setRR rr v).stub = s.stub := by cases rr <;> rfl
@[simp] theorem State.setStk_cfg (rr : RegStk) (hi lo : Byte) (s : State) : (s.setStk rr hi lo).cfg = s.cfg := by cases rr <;> rfl
@[simp] theorem State.setStk_cart (rr : RegStk) (hi lo : Byte) (s : State) : (s.setStk rr hi lo).cart = s.cart := by cases rr <;> rfl
@[simp] theorem State.setStk_sp (rr : RegStk) (hi lo : Byte) (s : State) : (s.setStk rr hi lo).sp = s.sp := by cases rr <;> rfl
@[simp] theorem State.setStk_pc (rr : RegStk) (hi lo : Byte) (s : State) : (s.setStk rr hi lo).pc = s.pc := by cases rr <;> rfl
@[simp] theorem State.setStk_ime (rr : RegStk) (hi lo : Byte) (s : State) : (s.setStk rr hi lo).ime = s.ime := by cases rr <;> rfl
@[simp] theorem State.setStk_eiPending (rr : RegStk) (hi lo : Byte) (s : State) : (s.setStk rr hi lo).eiPending = s.eiPending := by cases rr <;> rfl
@[simp] theorem State.setStk_mode (rr : RegStk) (hi lo : Byte) (s : State) : (s.setStk rr hi lo).mode = s.mode := by cases rr <;> rfl
@[simp] theorem State.setStk_clock (rr : RegStk) (hi lo : Byte) (s : State) : (s.setStk rr hi lo).clock = s.clock := by cases rr <;> rfl
@[simp] theorem State.setStk_fault (rr : RegStk) (hi lo : Byte) (s : State) : (s.setStk rr hi lo).fault = s.fault := by cases rr <;> rfl
@[simp] theorem State.setStk_ie (rr : RegStk) (hi lo : Byte) (s : State) : (s.setStk rr hi lo).ie = s.ie := by cases rr <;> rfl
@[simp] theorem State.setStk_ifr (rr : RegStk) (hi lo : Byte) (s : State) : (s.setStk rr hi lo).ifr = s.ifr := by cases rr <;> rfl
@[simp] theorem State.setStk_wram (rr : RegStk) (hi lo : Byte) (s : State) : (s.setStk rr hi lo).wram = s.wram := by cases rr <;> rfl
@[simp] theorem State.setStk_hram (rr : RegStk) (hi lo : Byte) (s : State) : (s.setStk rr hi lo).hram = s.hram := by cases rr <;> rfl
@[simp] theorem State.setStk_mbc (rr : RegStk) (hi lo : Byte) (s : State) : (s.setStk rr hi lo).mbc = s.mbc := by cases rr <;> rfl
@[simp] theorem State.setStk_cram (rr : RegStk) (hi lo : Byte) (s : State) : (s.setStk rr hi lo).cram = s.cram := by cases rr <;> rfl
@[simp] theorem State.setStk_draws (rr : RegStk) (hi lo : Byte) (s : State) : (s.setStk rr hi lo).draws = s.draws := by cases rr <;> rfl
@[simp] theorem State.setStk_stub (rr : RegStk) (hi lo : Byte) (s : State) : (s.setStk rr hi lo).stub = s.stub := by cases rr <;> rfl

/-! ### Bus reads -/

@[simp] theorem State.countDraw_cfg (s : State) : (s.countDraw).cfg = s.cfg := by unfold State.countDraw; split <;> rfl
@[simp] theorem State.countDraw_cart (s : State) : (s.countDraw).cart = s.cart := by unfold State.countDraw; split <;> rfl
@[simp] theorem State.countDraw_a (s : State) : (s.countDraw).a = s.a := by unfold State.countDraw; split <;> rfl
@[simp] theorem State.countDraw_f (s : State) : (s.countDraw).f = s.f := by unfold State.countDraw; split <;> rfl
@[simp] theorem State.countDraw_b (s : State) : (s.countDraw).b = s.b := by unfold State.countDraw; split <;> rfl
@[simp] theorem State.countDraw_c (s : State) : (s.countDraw).c = s.c := by unfold State.countDraw; split <;> rfl
@[simp] theorem State.countDraw_d (s : State) : (s.countDraw).d = s.d := by unfold State.countDraw; split <;> rfl
@[simp] theorem State.countDraw_e (s : State) : (s.countDraw).e = s.e := by unfold State.countDraw; split <;> rfl
@[simp] theorem State.countDraw_h (s : State) : (s.countDraw).h = s.h := by unfold State.countDraw; split <;> rfl
@[simp] theorem State.countDraw_l (s : State) : (s.countDraw).l = s.l := by unfold State.countDraw; split <;> rfl
@[simp] theorem State.countDraw_sp (s : State) : (s.countDraw).sp = s.sp := by unfold State.countDraw; split <;> rfl
@[simp] theorem State.countDraw_pc (s : State) : (s.countDraw).pc = s.pc := by unfold State.countDraw; split <;> rfl
@[simp] theorem State.countDraw_ime (s : State) : (s.countDraw).ime = s.ime := by unfold State.countDraw; split <;> rfl
@[simp] theorem State.countDraw_eiPending (s : State) : (s.countDraw).eiPending = s.eiPending := by unfold State.countDraw; split <;> rfl
@[simp] theorem State.countDraw_mode (s : State) : (s.countDraw).mode = s.mode := by unfold State.countDraw; split <;> rfl
@[simp] theorem State.countDraw_clock (s : State) : (s.countDraw).clock = s.clock := by unfold State.countDraw; split <;> rfl
@[simp] theorem State.countDraw_fault (s : State) : (s.countDraw).fault = s.fault := by unfold State.countDraw; split <;> rfl
@[simp] theorem State.countDraw_ie (s : State) : (s.countDraw).ie = s.ie := by unfold State.countDraw; split <;> rfl
@[simp] theorem State.countDraw_ifr (s : State) : (s.countDraw).ifr = s.ifr := by unfold State.countDraw; split <;> rfl
@[simp] theorem State.countDraw_wram (s : State) : (s.countDraw).wram = s.wram := by unfold State.countDraw; split <;> rfl
@[simp] theorem State.countDraw_hram (s : State) : (s.countDraw).hram = s.hram := by unfold State.countDraw; split <;> rfl
@[simp] theorem State.countDraw_mbc (s : State) : (s.countDraw).mbc = s.mbc := by unfold State.countDraw; split <;> rfl
@[simp] theorem State.countDraw_cram (s : State) : (s.countDraw).cram = s.cram := by unfold State.countDraw; split <;> rfl
@[simp] theorem State.countDraw_stub (s : State) : (s.countDraw).stub = s.stub := by unfold State.countDraw; split <;> rfl
@[simp] theorem State.readEff_cfg (x : Word) (s : State) : (s.readEff x).cfg = s.cfg := by unfold State.readEff; split <;> simp
@[simp] theorem State.readEff_cart (x : Word) (s : State) : (s.readEff x).cart = s.cart := by unfold State.readEff; split <;> simp
@[simp] theorem State.readEff_a (x : Word) (s : State) : (s.readEff x).a = s.a := by unfold State.readEff; split <;> simp
@[simp] theorem State.readEff_f (x : Word) (s : State) : (s.readEff x).f = s.f := by unfold State.readEff; split <;> simp
@[simp] theorem State.readEff_b (x : Word) (s : State) : (s.readEff x).b = s.b := by unfold State.readEff; split <;> simp
@[simp] theorem State.readEff_c (x : Word) (s : State) : (s.readEff x).c = s.c := by unfold State.readEff; split <;> simp
@[simp] theorem State.readEff_d (x : Word) (s : State) : (s.readEff x).d = s.d := by unfold State.readEff; split <;> simp
@[simp] theorem State.readEff_e (x : Word) (s : State) : (s.readEff x).e = s.e := by unfold State.readEff; split <;> simp
@[simp] theorem State.readEff_h (x : Word) (s : State) : (s.readEff x).h = s.h := by unfold State.readEff; split <;> simp
@[simp] theorem State.readEff_l (x : Word) (s : State) : (s.readEff x).l = s.l := by unfold State.readEff; split <;> simp
@[simp] theorem State.readEff_sp (x : Word) (s : State) : (s.readEff x).sp = s.sp := by unfold State.readEff; split <;> simp
@[simp] theorem State.readEff_pc (x : Word) (s : State) : (s.readEff x).pc = s.pc := by unfold State.readEff; split <;> simp
@[simp] theorem State.readEff_ime (x : Word) (s : State) : (s.readEff x).ime = s.ime := by unfold State.readEff; split <;> simp
@[simp] theorem State.readEff_eiPending (x : Word) (s : State) : (s.readEff x).eiPending = s.eiPending := by unfold State.readEff; split <;> simp
@[simp] theorem State.readEff_mode (x : Word) (s : State) : (s.readEff x).mode = s.mode := by unfold State.readEff; split <;> simp
@[simp] theorem State.readEff_clock (x : Word) (s : State) : (s.readEff x).clock = s.clock := by unfold State.readEff; split <;> simp
@[simp] theorem State.readEff_fault (x : Word) (s : State) : (s.readEff x).fault = s.fault := by unfold State.readEff; split <;> simp
@[simp] theorem State.readEff_ie (x : Word) (s : State) : (s.readEff x).ie = s.ie := by unfold State.readEff; split <;> simp
@[simp] theorem State.readEff_ifr (x : Word) (s : State) : (s.readEff x).ifr = s.ifr := by unfold State.readEff; split <;> simp
@[simp] theorem State.readEff_wram (x : Word) (s : State) : (s.readEff x).wram = s.wram := by unfold State.readEff; split <;> simp
@[simp] theorem State.readEff_hram (x : Word) (s : State) : (s.readEff x).hram = s.hram := by unfold State.readEff; split <;> simp
@[simp] theorem State.readEff_mbc (x : Word) (s : State) : (s.readEff x).mbc = s.mbc := by unfold State.readEff; split <;> simp
@[simp] theorem State.readEff_cram (x : Word) (s : State) : (s.readEff x).cram = s.cram := by unfold State.readEff; split <;> simp
@[simp] theorem State.readEff_stub (x : Word) (s : State) : (s.readEff x).stub = s.stub := by unfold State.readEff; split <;> simp

/-! ### Bus writes: what no bus write changes -/

@[simp] theorem State.periphWrite_cfg (x : Word) (v : Byte) (s : State) : (s.periphWrite x v).cfg = s.cfg := by unfold State.periphWrite; split <;> rfl
@[simp] theorem State.periphWrite_cart (x : Word) (v : Byte) (s : State) : (s.periphWrite x v).cart = s.cart := by unfold State.periphWrite; split <;> rfl
@[simp] theorem State.periphWrite_a (x : Word) (v : Byte) (s : State) : (s.periphWrite x v).a = s.a := by unfold State.periphWrite; split <;> rfl
@[simp] theorem State.periphWrite_f (x : Word) (v : Byte) (s : State) : (s.periphWrite x v).f = s.f := by unfold State.periphWrite; split <;> rfl
@[simp] theorem State.periphWrite_b (x : Word) (v : Byte) (s : State) : (s.periphWrite x v).b = s.b := by unfold State.periphWrite; split <;> rfl
@[simp] theorem State.periphWrite_c (x : Word) (v : Byte) (s : State) : (s.periphWrite x v).c = s.c := by unfold State.periphWrite; split <;> rfl
@[simp] theorem State.periphWrite_d (x : Word) (v : Byte) (s : State) : (s.periphWrite x v).d = s.d := by unfold State.periphWrite; split <;> rfl
@[simp] theorem State.periphWrite_e (x : Word) (v : Byte) (s : State) : (s.periphWrite x v).e = s.e := by unfold State.periphWrite; split <;> rfl
@[simp] theorem State.periphWrite_h (x : Word) (v : Byte) (s : State) : (s.periphWrite x v).h = s.h := by unfold State.periphWrite; split <;> rfl
@[simp] theorem State.periphWrite_l (x : Word) (v : Byte) (s : State) : (s.periphWrite x v).l = s.l := by unfold State.periphWrite; split <;> rfl
@[simp] theorem State.periphWrite_sp (x : Word) (v : Byte) (s : State) : (s.periphWrite x v).sp = s.sp := by unfold State.periphWrite; split <;> rfl
@[simp] theorem State.periphWrite_pc (x : Word) (v : Byte) (s : State) : (s.periphWrite x v).pc = s.pc := by unfold State.periphWrite; split <;> rfl
@[simp] theorem State.periphWrite_ime (x : Word) (v : Byte) (s : State) : (s.periphWrite x v).ime = s.ime := by unfold State.periphWrite; split <;> rfl
@[simp] theorem State.periphWrite_eiPending (x : Word) (v : Byte) (s : State) : (s.periphWrite x v).eiPending = s.eiPending := by unfold State.periphWrite; split <;> rfl
@[simp] theorem State.periphWrite_mode (x : Word) (v : Byte) (s : State) : (s.periphWrite x v).mode = s.mode := by unfold State.periphWrite; split <;> rfl
@[simp] theorem State.periphWrite_clock (x : Word) (v : Byte) (s : State) : (s.periphWrite x v).clock = s.clock := by unfold State.periphWrite; split <;> rfl
@[simp] theorem State.periphWrite_fault (x : Word) (v : Byte) (s : State) : (s.periphWrite x v).fault = s.fault := by unfold State.periphWrite; split <;> rfl
@[simp] theorem State.periphWrite_ie (x : Word) (v : Byte) (s : State) : (s.periphWrite x v).ie = s.ie := by unfold State.periphWrite; split <;> rfl
@[simp] theorem State.periphWrite_wram (x : Word) (v : Byte) (s : State) : (s.periphWrite x v).wram = s.wram := by unfold State.periphWrite; split <;> rfl
@[simp] theorem State.periphWrite_hram (x : Word) (v : Byte) (s : State) : (s.periphWrite x v).hram = s.hram := by unfold State.periphWrite; split <;> rfl
@[simp] theorem State.periphWrite_mbc (x : Word) (v : Byte) (s : State) : (s.periphWrite x v).mbc = s.mbc := by unfold State.periphWrite; split <;> rfl
@[simp] theorem State.periphWrite_cram (x : Word) (v : Byte) (s : State) : (s.periphWrite x v).cram = s.cram := by unfold State.periphWrite; split <;> rfl
@[simp] theorem State.ramWrite_cfg (x : Word) (v : Byte) (s : State) : (s.ramWrite x v).cfg = s.cfg := by unfold State.ramWrite; split <;> rfl
@[simp] theorem State.ramWrite_cart (x : Word) (v : Byte) (s : State) : (s.ramWrite x v).cart = s.cart := by unfold State.ramWrite; split <;> rfl
@[simp] theorem State.ramWrite_a (x : Word) (v : Byte) (s : State) : (s.ramWrite x v).a = s.a := by unfold State.ramWrite; split <;> rfl
@[simp] theorem State.ramWrite_f (x : Word) (v : Byte) (s : State) : (s.ramWrite x v).f = s.f := by unfold State.ramWrite; split <;> rfl
@[simp] theorem State.ramWrite_b (x : Word) (v : Byte) (s : State) : (s.ramWrite x v).b = s.b := by unfold State.ramWrite; split <;> rfl
@[simp] theorem State.ramWrite_c (x : Word) (v : Byte) (s : State) : (s.ramWrite x v).c = s.c := by unfold State.ramWrite; split <;> rfl
@[simp] theorem State.ramWrite_d (x : Word) (v : Byte) (s : State) : (s.ramWrite x v).d = s.d := by unfold State.ramWrite; split <;> rfl
@[simp] theorem State.ramWrite_e (x : Word) (v : Byte) (s : State) : (s.ramWrite x v).e = s.e := by unfold State.ramWrite; split <;> rfl
@[simp] theorem State.ramWrite_h (x : Word) (v : Byte) (s : State) : (s.ramWrite x v).h = s.h := by unfold State.ramWrite; split <;> rfl
@[simp] theorem State.ramWrite_l (x : Word) (v : Byte) (s : State) : (s.ramWrite x v).l = s.l := by unfold State.ramWrite; split <;> rfl
@[simp] theorem State.ramWrite_sp (x : Word) (v : Byte) (s : State) : (s.ramWrite x v).sp = s.sp := by unfold State.ramWrite; split <;> rfl
@[simp] theorem State.ramWrite_pc (x : Word) (v : Byte) (s : State) : (s.ramWrite x v).pc = s.pc := by unfold State.ramWrite; split <;> rfl
@[simp] theorem State.ramWrite_ime (x : Word) (v : Byte) (s : State) : (s.ramWrite x v).ime = s.ime := by unfold State.ramWrite; split <;> rfl
@[simp] theorem State.ramWrite_eiPending (x : Word) (v : Byte) (s : State) : (s.ramWrite x v).eiPending = s.eiPending := by unfold State.ramWrite; split <;> rfl
@[simp] theorem State.ramWrite_mode (x : Word) (v : Byte) (s : State) : (s.ramWrite x v).mode = s.mode := by unfold State.ramWrite; split <;> rfl
@[simp] theorem State.ramWrite_clock (x : Word) (v : Byte) (s : State) : (s.ramWrite x v).clock = s.clock := by unfold State.ramWrite; split <;> rfl
@[simp] theorem State.ramWrite_fault (x : Word) (v : Byte) (s : State) : (s.ramWrite x v).fault = s.fault := by unfold State.ramWrite; split <;> rfl
@[simp] theorem State.ramWrite_ie (x : Word) (v : Byte) (s : State) : (s.ramWrite x v).ie = s.ie := by unfold State.ramWrite; split <;> rfl
@[simp] theorem State.ramWrite_ifr (x : Word) (v : Byte) (s : State) : (s.ramWrite x v).ifr = s.ifr := by unfold State.ramWrite; split <;> rfl
@[simp] theorem State.ramWrite_wram (x : Word) (v : Byte) (s : State) : (s.ramWrite x v).wram = s.wram := by unfold State.ramWrite; split <;> rfl
@[simp] theorem State.ramWrite_hram (x : Word) (v : Byte) (s : State) : (s.ramWrite x v).hram = s.hram := by unfold State.ramWrite; split <;> rfl
@[simp] theorem State.ramWrite_draws (x : Word) (v : Byte) (s : State) : (s.ramWrite x v).draws = s.draws := by unfold State.ramWrite; split <;> rfl
@[simp] theorem State.ramWrite_stub (x : Word) (v : Byte) (s : State) : (s.ramWrite x v).stub = s.stub := by unfold State.ramWrite; split <;> rfl
@[simp] theorem State.controlWrite_cfg (x : Word) (v : Byte) (s : State) : (s.controlWrite x v).cfg = s.cfg := rfl
@[simp] theorem State.controlWrite_cart (x : Word) (v : Byte) (s : State) : (s.controlWrite x v).cart = s.cart := rfl
@[simp] theorem State.controlWrite_a (x : Word) (v : Byte) (s : State) : (s.controlWrite x v).a = s.a := rfl
@[simp] theorem State.controlWrite_f (x : Word) (v : Byte) (s : State) : (s.controlWrite x v).f = s.f := rfl
@[simp] theorem State.controlWrite_b (x : Word) (v : Byte) (s : State) : (s.controlWrite x v).b = s.b := rfl
@[simp] theorem State.controlWrite_c (x : Word) (v : Byte) (s : State) : (s.controlWrite x v).c = s.c := rfl
@[simp] theorem State.controlWrite_d (x : Word) (v : Byte) (s : State) : (s.controlWrite x v).d = s.d := rfl
@[simp] theorem State.controlWrite_e (x : Word) (v : Byte) (s : State) : (s.controlWrite x v).e = s.e := rfl
@[simp] theorem State.controlWrite_h (x : Word) (v : Byte) (s : State) : (s.controlWrite x v).h = s.h := rfl
@[simp] theorem State.controlWrite_l (x : Word) (v : Byte) (s : State) : (s.controlWrite x v).l = s.l := rfl
@[simp] theorem State.controlWrite_sp (x : Word) (v : Byte) (s : State) : (s.controlWrite x v).sp = s.sp := rfl
@[simp] theorem State.controlWrite_pc (x : Word) (v : Byte) (s : State) : (s.controlWrite x v).pc = s.pc := rfl
@[simp] theorem State.controlWrite_ime (x : Word) (v : Byte) (s : State) : (s.controlWrite x v).ime = s.ime := rfl
@[simp] theorem State.controlWrite_eiPending (x : Word) (v : Byte) (s : State) : (s.controlWrite x v).eiPending = s.eiPending := rfl
@[simp] theorem State.controlWrite_mode (x : Word) (v : Byte) (s : State) : (s.controlWrite x v).mode = s.mode := rfl
@[simp] theorem State.controlWrite_clock (x : Word) (v : Byte) (s : State) : (s.controlWrite x v).clock = s.clock := rfl
@[simp] theorem State.controlWrite_fault (x : Word) (v : Byte) (s : State) : (s.controlWrite x v).fault = s.fault := rfl
@[simp] theorem State.controlWrite_ie (x : Word) (v : Byte) (s : State) : (s.controlWrite x v).ie = s.ie := rfl
@[simp] theorem State.controlWrite_ifr (x : Word) (v : Byte) (s : State) : (s.controlWrite x v).ifr = s.ifr := rfl
@[simp] theorem State.controlWrite_wram (x : Word) (v : Byte) (s : State) : (s.controlWrite x v).wram = s.wram := rfl
@[simp] theorem State.controlWrite_hram (x : Word) (v : Byte) (s : State) : (s.controlWrite x v).hram = s.hram := rfl
@[simp] theorem State.controlWrite_mbc (x : Word) (v : Byte) (s : State) : (s.controlWrite x v).mbc = s.mbc.control (controlWindow x) v := rfl
@[simp] theorem State.controlWrite_cram (x : Word) (v : Byte) (s : State) : (s.controlWrite x v).cram = s.cram := rfl
@[simp] theorem State.controlWrite_draws (x : Word) (v : Byte) (s : State) : (s.controlWrite x v).draws = s.draws := rfl
@[simp] theorem State.controlWrite_stub (x : Word) (v : Byte) (s : State) : (s.controlWrite x v).stub = s.stub := rfl
@[simp] theorem State.busWrite_cfg (x : Word) (v : Byte) (s : State) : (s.busWrite x v).cfg = s.cfg := by unfold State.busWrite; split <;> (try split) <;> simp
@[simp] theorem State.busWrite_cart (x : Word) (v : Byte) (s : State) : (s.busWrite x v).cart = s.cart := by unfold State.busWrite; split <;> (try split) <;> simp
@[simp] theorem State.busWrite_a (x : Word) (v : Byte) (s : State) : (s.busWrite x v).a = s.a := by unfold State.busWrite; split <;> (try split) <;> simp
@[simp] theorem State.busWrite_f (x : Word) (v : Byte) (s : State) : (s.busWrite x v).f = s.f := by unfold State.busWrite; split <;> (try split) <;> simp
@[simp] theorem State.busWrite_b (x : Word) (v : Byte) (s : State) : (s.busWrite x v).b = s.b := by unfold State.busWrite; split <;> (try split) <;> simp
@[simp] theorem State.busWrite_c (x : Word) (v : Byte) (s : State) : (s.busWrite x v).c = s.c := by unfold State.busWrite; split <;> (try split) <;> simp
@[simp] theorem State.busWrite_d (x : Word) (v : Byte) (s : State) : (s.busWrite x v).d = s.d := by unfold State.busWrite; split <;> (try split) <;> simp
@[simp] theorem State.busWrite_e (x : Word) (v : Byte) (s : State) : (s.busWrite x v).e = s.e := by unfold State.busWrite; split <;> (try split) <;> simp
@[simp] theorem State.busWrite_h (x : Word) (v : Byte) (s : State) : (s.busWrite x v).h = s.h := by unfold State.busWrite; split <;> (try split) <;> simp
@[simp] theorem State.busWrite_l (x : Word) (v : Byte) (s : State) : (s.busWrite x v).l = s.l := by unfold State.busWrite; split <;> (try split) <;> simp
@[simp] theorem State.busWrite_sp (x : Word) (v : Byte) (s : State) : (s.busWrite x v).sp = s.sp := by unfold State.busWrite; split <;> (try split) <;> simp
@[simp] theorem State.busWrite_pc (x : Word) (v : Byte) (s : State) : (s.busWrite x v).pc = s.pc := by unfold State.busWrite; split <;> (try split) <;> simp
@[simp] theorem State.busWrite_ime (x : Word) (v : Byte) (s : State) : (s.busWrite x v).ime = s.ime := by unfold State.busWrite; split <;> (try split) <;> simp
@[simp] theorem State.busWrite_eiPending (x : Word) (v : Byte) (s : State) : (s.busWrite x v).eiPending = s.eiPending := by unfold State.busWrite; split <;> (try split) <;> simp
@[simp] theorem State.busWrite_mode (x : Word) (v : Byte) (s : State) : (s.busWrite x v).mode = s.mode := by unfold State.busWrite; split <;> (try split) <;> simp
@[simp] theorem State.busWrite_clock (x : Word) (v : Byte) (s : State) : (s.busWrite x v).clock = s.clock := by unfold State.busWrite; split <;> (try split) <;> simp
@[simp] theorem State.busWrite_fault (x : Word) (v : Byte) (s : State) : (s.busWrite x v).fault = s.fault := by unfold State.busWrite; split <;> (try split) <;> simp
@[simp] theorem State.busWrite16_cfg (x : Word) (lo hi : Byte) (s : State) : (s.busWrite16 x lo hi).cfg = s.cfg := by simp [State.busWrite16]
@[simp] theorem State.busWrite16_cart (x : Word) (lo hi : Byte) (s : State) : (s.busWrite16 x lo hi).cart = s.cart := by simp [State.busWrite16]
@[simp] theorem State.busWrite16_a (x : Word) (lo hi : Byte) (s : State) : (s.busWrite16 x lo hi).a = s.a := by simp [State.busWrite16]
@[simp] theorem State.busWrite16_f (x : Word) (lo hi : Byte) (s : State) : (s.busWrite16 x lo hi).f = s.f := by simp [State.busWrite16]
@[simp] theorem State.busWrite16_b (x : Word) (lo hi : Byte) (s : State) : (s.busWrite16 x lo hi).b = s.b := by simp [State.busWrite16]
@[simp] theorem State.busWrite16_c (x : Word) (lo hi : Byte) (s : State) : (s.busWrite16 x lo hi).c = s.c := by simp [State.busWrite16]
@[simp] theorem State.busWrite16_d (x : Word) (lo hi : Byte) (s : State) : (s.busWrite16 x lo hi).d = s.d := by simp [State.busWrite16]
@[simp] theorem State.busWrite16_e (x : Word) (lo hi : Byte) (s : State) : (s.busWrite16 x lo hi).e = s.e := by simp [State.busWrite16]
@[simp] theorem State.busWrite16_h (x : Word) (lo hi : Byte) (s : State) : (s.busWrite16 x lo hi).h = s.h := by simp [State.busWrite16]
@[simp] theorem State.busWrite16_l (x : Word) (lo hi : Byte) (s : State) : (s.busWrite16 x lo hi).l = s.l := by simp [State.busWrite16]
@[simp] theorem State.busWrite16_sp (x : Word) (lo hi : Byte) (s : State) : (s.busWrite16 x lo hi).sp = s.sp := by simp [State.busWrite16]
@[simp] theorem State.busWrite16_pc (x : Word) (lo hi : Byte) (s : State) : (s.busWrite16 x lo hi).pc = s.pc := by simp [State.busWrite16]
@[simp] theorem State.busWrite16_ime (x : Word) (lo hi : Byte) (s : State) : (s.busWrite16 x lo hi).ime = s.ime := by simp [State.busWrite16]
@[simp] theorem State.busWrite16_eiPending (x : Word) (lo hi : Byte) (s : State) : (s.busWrite16 x lo hi).eiPending = s.eiPending := by simp [State.busWrite16]
@[simp] theorem State.busWrite16_mode (x : Word) (lo hi : Byte) (s : State) : (s.busWrite16 x lo hi).mode = s.mode := by simp [State.busWrite16]
@[simp] theorem State.busWrite16_clock (x : Word) (lo hi : Byte) (s : State) : (s.busWrite16 x lo hi).clock = s.clock := by simp [State.busWrite16]
@[simp] theorem State.busWrite16_fault (x : Word) (lo hi : Byte) (s : State) : (s.busWrite16 x lo hi).fault = s.fault := by simp [State.busWrite16]

/-! ### Stack -/

@[simp] theorem State.pushByte_cfg (v : Byte) (s : State) : (s.pushByte v).cfg = s.cfg := by simp [State.pushByte]
@[simp] theorem State.pushByte_cart (v : Byte) (s : State) : (s.pushByte v).cart = s.cart := by simp [State.pushByte]
@[simp] theorem State.pushByte_a (v : Byte) (s : State) : (s.pushByte v).a = s.a := by simp [State.pushByte]
@[simp] theorem State.pushByte_f (v : Byte) (s : State) : (s.pushByte v).f = s.f := by simp [State.pushByte]
@[simp] theorem State.pushByte_b (v : Byte) (s : State) : (s.pushByte v).b = s.b := by simp [State.pushByte]
@[simp] theorem State.pushByte_c (v : Byte) (s : State) : (s.pushByte v).c = s.c := by simp [State.pushByte]
@[simp] theorem State.pushByte_d (v : Byte) (s : State) : (s.pushByte v).d = s.d := by simp [State.pushByte]
@[simp] theorem State.pushByte_e (v : Byte) (s : State) : (s.pushByte v).e = s.e := by simp [State.pushByte]
@[simp] theorem State.pushByte_h (v : Byte) (s : State) : (s.pushByte v).h = s.h := by simp [State.pushByte]
@[simp] theorem State.pushByte_l (v : Byte) (s : State) : (s.pushByte v).l = s.l := by simp [State.pushByte]
@[simp] theorem State.pushByte_sp (v : Byte) (s : State) : (s.pushByte v).sp = s.sp - 1 := by simp [State.pushByte]
@[simp] theorem State.pushByte_pc (v : Byte) (s : State) : (s.pushByte v).pc = s.pc := by simp [State.pushByte]
@[simp] theorem State.pushByte_ime (v : Byte) (s : State) : (s.pushByte v).ime = s.ime := by simp [State.pushByte]
@[simp] theorem State.pushByte_eiPending (v : Byte) (s : State) : (s.pushByte v).eiPending = s.eiPending := by simp [State.pushByte]
@[simp] theorem State.pushByte_mode (v : Byte) (s : State) : (s.pushByte v).mode = s.mode := by simp [State.pushByte]
@[simp] theorem State.pushByte_clock (v : Byte) (s : State) : (s.pushByte v).clock = s.clock := by simp [State.pushByte]
@[simp] theorem State.pushByte_fault (v : Byte) (s : State) : (s.pushByte v).fault = s.fault := by simp [State.pushByte]
@[simp] theorem State.push16_cfg (hi lo : Byte) (s : State) : (s.push16 hi lo).cfg = s.cfg := by simp [State.push16]
@[simp] theorem State.push16_cart (hi lo : Byte) (s : State) : (s.push16 hi lo).cart = s.cart := by simp [State.push16]
@[simp] theorem State.push16_a (hi lo : Byte) (s : State) : (s.push16 hi lo).a = s.a := by simp [State.push16]
@[simp] theorem State.push16_f (hi lo : Byte) (s : State) : (s.push16 hi lo).f = s.f := by simp [State.push16]
@[simp] theorem State.push16_b (hi lo : Byte) (s : State) : (s.push16 hi lo).b = s.b := by simp [State.push16]
@[simp] theorem State.push16_c (hi lo : Byte) (s : State) : (s.push16 hi lo).c = s.c := by simp [State.push16]
@[simp] theorem State.push16_d (hi lo : Byte) (s : State) : (s.push16 hi lo).d = s.d := by simp [State.push16]
@[simp] theorem State.push16_e (hi lo : Byte) (s : State) : (s.push16 hi lo).e = s.e := by simp [State.push16]
@[simp] theorem State.push16_h (hi lo : Byte) (s : State) : (s.push16 hi lo).h = s.h := by simp [State.push16]
@[simp] theorem State.push16_l (hi lo : Byte) (s : State) : (s.push16 hi lo).l = s.l := by simp [State.push16]
@[simp] theorem State.push16_sp (hi lo : Byte) (s : State) : (s.push16 hi lo).sp = s.sp - 1 - 1 := by simp [State.push16]
@[simp] theorem State.push16_pc (hi lo : Byte) (s : State) : (s.push16 hi lo).pc = s.pc := by simp [State.push16]
@[simp] theorem State.push16_ime (hi lo : Byte) (s : State) : (s.push16 hi lo).ime = s.ime := by simp [State.push16]
@[simp] theorem State.push16_eiPending (hi lo : Byte) (s : State) : (s.push16 hi lo).eiPending = s.eiPending := by simp [State.push16]
@[simp] theorem State.push16_mode (hi lo : Byte) (s : State) : (s.push16 hi lo).mode = s.mode := by simp [State.push16]
@[simp] theorem State.push16_clock (hi lo : Byte) (s : State) : (s.push16 hi lo).clock = s.clock := by simp [State.push16]
@[simp] theorem State.push16_fault (hi lo : Byte) (s : State) : (s.push16 hi lo).fault = s.fault := by simp [State.push16]
@[simp] theorem State.popped_cfg (s : State) : (s.popped).cfg = s.cfg := by simp [State.popped]
@[simp] theorem State.popped_cart (s : State) : (s.popped).cart = s.cart := by simp [State.popped]
@[simp] theorem State.popped_a (s : State) : (s.popped).a = s.a := by simp [State.popped]
@[simp] theorem State.popped_f (s : State) : (s.popped).f = s.f := by simp [State.popped]
@[simp] theorem State.popped_b (s : State) : (s.popped).b = s.b := by simp [State.popped]
@[simp] theorem State.popped_c (s : State) : (s.popped).c = s.c := by simp [State.popped]
@[simp] theorem State.popped_d (s : State) : (s.popped).d = s.d := by simp [State.popped]
@[simp] theorem State.popped_e (s : State) : (s.popped).e = s.e := by simp [State.popped]
@[simp] theorem State.popped_h (s : State) : (s.popped).h = s.h := by simp [State.popped]
@[simp] theorem State.popped_l (s : State) : (s.popped).l = s.l := by simp [State.popped]
@[simp] theorem State.popped_sp (s : State) : (s.popped).sp = s.sp + 1 := by simp [State.popped]
@[simp] theorem State.popped_pc (s : State) : (s.popped).pc = s.pc := by simp [State.popped]
@[simp] theorem State.popped_ime (s : State) : (s.popped).ime = s.ime := by simp [State.popped]
@[simp] theorem State.popped_eiPending (s : State) : (s.popped).eiPending = s.eiPending := by simp [State.popped]
@[simp] theorem State.popped_mode (s : State) : (s.popped).mode = s.mode := by simp [State.popped]
@[simp] theorem State.popped_clock (s : State) : (s.popped).clock = s.clock := by simp [State.popped]
@[simp] theorem State.popped_fault (s : State) : (s.popped).fault = s.fault := by simp [State.popped]
@[simp] theorem State.popped_ie (s : State) : (s.popped).ie = s.ie := by simp [State.popped]
@[simp] theorem State.popped_ifr (s : State) : (s.popped).ifr = s.ifr := by simp [State.popped]
@[simp] theorem State.popped_wram (s : State) : (s.popped).wram = s.wram := by simp [State.popped]
@[simp] theorem State.popped_hram (s : State) : (s.popped).hram = s.hram := by simp [State.popped]
@[simp] theorem State.popped_mbc (s : State) : (s.popped).mbc = s.mbc := by simp [State.popped]
@[simp] theorem State.popped_cram (s : State) : (s.popped).cram = s.cram := by simp [State.popped]
@[simp] theorem State.popped_stub (s : State) : (s.popped).stub = s.stub := by simp [State.popped]
@[simp] theorem State.popped16_cfg (s : State) : (s.popped16).cfg = s.cfg := by simp [State.popped16]
@[simp] theorem State.popped16_cart (s : State) : (s.popped16).cart = s.cart := by simp [State.popped16]
@[simp] theorem State.popped16_a (s : State) : (s.popped16).a = s.a := by simp [State.popped16]
@[simp] theorem State.popped16_f (s : State) : (s.popped16).f = s.f := by simp [State.popped16]
@[simp] theorem State.popped16_b (s : State) : (s.popped16).b = s.b := by simp [State.popped16]
@[simp] theorem State.popped16_c (s : State) : (s.popped16).c = s.c := by simp [State.popped16]
@[simp] theorem State.popped16_d (s : State) : (s.popped16).d = s.d := by simp [State.popped16]
@[simp] theorem State.popped16_e (s : State) : (s.popped16).e = s.e := by simp [State.popped16]
@[simp] theorem State.popped16_h (s : State) : (s.popped16).h = s.h := by simp [State.popped16]
@[simp] theorem State.popped16_l (s : State) : (s.popped16).l = s.l := by simp [State.popped16]
@[simp] theorem State.popped16_sp (s : State) : (s.popped16).sp = s.sp + 1 + 1 := by simp [State.popped16]
@[simp] theorem State.popped16_pc (s : State) : (s.popped16).pc = s.pc := by simp [State.popped16]
@[simp] theorem State.popped16_ime (s : State) : (s.popped16).ime = s.ime := by simp [State.popped16]
@[simp] theorem State.popped16_eiPending (s : State) : (s.popped16).eiPending = s.eiPending := by simp [State.popped16]
@[simp] theorem State.popped16_mode (s : State) : (s.popped16).mode = s.mode := by simp [State.popped16]
@[simp] theorem State.popped16_clock (s : State) : (s.popped16).clock = s.clock := by simp [State.popped16]
@[simp] theorem State.popped16_fault (s : State) : (s.popped16).fault = s.fault := by simp [State.popped16]
@[simp] theorem State.popped16_ie (s : State) : (s.popped16).ie = s.ie := by simp [State.popped16]
@[simp] theorem State.popped16_ifr (s : State) : (s.popped16).ifr = s.ifr := by simp [State.popped16]
@[simp] theorem State.popped16_wram (s : State) : (s.popped16).wram = s.wram := by simp [State.popped16]
@[simp] theorem State.popped16_hram (s : State) : (s.popped16).hram = s.hram := by simp [State.popped16]
@[simp] theorem State.popped16_mbc (s : State) : (s.popped16).mbc = s.mbc := by simp [State.popped16]
@[simp] theorem State.popped16_cram (s : State) : (s.popped16).cram = s.cram := by simp [State.popped16]
@[simp] theorem State.popped16_stub (s : State) : (s.popped16).stub = s.stub := by simp [State.popped16]
@[simp] theorem State.popPC_cfg (s : State) : (s.popPC).cfg = s.cfg := by simp [State.popPC]
@[simp] theorem State.popPC_cart (s : State) : (s.popPC).cart = s.cart := by simp [State.popPC]
@[simp] theorem State.popPC_a (s : State) : (s.popPC).a = s.a := by simp [State.popPC]
@[simp] theorem State.popPC_f (s : State) : (s.popPC).f = s.f := by simp [State.popPC]
@[simp] theorem State.popPC_b (s : State) : (s.popPC).b = s.b := by simp [State.popPC]
@[simp] theorem State.popPC_c (s : State) : (s.popPC).c = s.c := by simp [State.popPC]
@[simp] theorem State.popPC_d (s : State) : (s.popPC).d = s.d := by simp [State.popPC]
@[simp] theorem State.popPC_e (s : State) : (s.popPC).e = s.e := by simp [State.popPC]
@[simp] theorem State.popPC_h (s : State) : (s.popPC).h = s.h := by simp [State.popPC]
@[simp] theorem State.popPC_l (s : State) : (s.popPC).l = s.l := by simp [State.popPC]
@[simp] theorem State.popPC_sp (s : State) : (s.popPC).sp = s.sp + 1 + 1 := by simp [State.popPC]
@[simp] theorem State.popPC_pc (s : State) : (s.popPC).pc = ofBytes s.popHi s.popLo := by simp [State.popPC]
@[simp] theorem State.popPC_ime (s : State) : (s.popPC).ime = s.ime := by simp [State.popPC]
@[simp] theorem State.popPC_eiPending (s : State) : (s.popPC).eiPending = s.eiPending := by simp [State.popPC]
@[simp] theorem State.popPC_mode (s : State) : (s.popPC).mode = s.mode := by simp [State.popPC]
@[simp] theorem State.popPC_clock (s : State) : (s.popPC).clock = s.clock := by simp [State.popPC]
@[simp] theorem State.popPC_fault (s : State) : (s.popPC).fault = s.fault := by simp [State.popPC]
@[simp] theorem State.popPC_ie (s : State) : (s.popPC).ie = s.ie := by simp [State.popPC]
@[simp] theorem State.popPC_ifr (s : State) : (s.popPC).ifr = s.ifr := by simp [State.popPC]
@[simp] theorem State.popPC_wram (s : State) : (s.popPC).wram = s.wram := by simp [State.popPC]
@[simp] theorem State.popPC_hram (s : State) : (s.popPC).hram = s.hram := by simp [State.popPC]
@[simp] theorem State.popPC_mbc (s : State) : (s.popPC).mbc = s.mbc := by simp [State.popPC]
@[simp] theorem State.popPC_cram (s : State) : (s.popPC).cram = s.cram := by simp [State.popPC]
@[simp] theorem State.popPC_stub (s : State) : (s.popPC).stub = s.stub := by simp [State.popPC]

/-! ### Fetch -/

@[simp] theorem State.fetched_cfg (s : State) : (s.fetched).cfg = s.cfg := by simp [State.fetched]
@[simp] theorem State.fetched_cart (s : State) : (s.fetched).cart = s.cart := by simp [State.fetched]
@[simp] theorem State.fetched_a (s : State) : (s.fetched).a = s.a := by simp [State.fetched]
@[simp] theorem State.fetched_f (s : State) : (s.fetched).f = s.f := by simp [State.fetched]
@[simp] theorem State.fetched_b (s : State) : (s.fetched).b = s.b := by simp [State.fetched]
@[simp] theorem State.fetched_c (s : State) : (s.fetched).c = s.c := by simp [State.fetched]
@[simp] theorem State.fetched_d (s : State) : (s.fetched).d = s.d := by simp [State.fetched]
@[simp] theorem State.fetched_e (s : State) : (s.fetched).e = s.e := by simp [State.fetched]
@[simp] theorem State.fetched_h (s : State) : (s.fetched).h = s.h := by simp [State.fetched]
@[simp] theorem State.fetched_l (s : State) : (s.fetched).l = s.l := by simp [State.fetched]
@[simp] theorem State.fetched_sp (s : State) : (s.fetched).sp = s.sp := by simp [State.fetched]
@[simp] theorem State.fetched_pc (s : State) : (s.fetched).pc = s.pc + 1 := by simp [State.fetched]
@[simp] theorem State.fetched_ime (s : State) : (s.fetched).ime = s.ime := by simp [State.fetched]
@[simp] theorem State.fetched_eiPending (s : State) : (s.fetched).eiPending = s.eiPending := by simp [State.fetched]
@[simp] theorem State.fetched_mode (s : State) : (s.fetched).mode = s.mode := by simp [State.fetched]
@[simp] theorem State.fetched_clock (s : State) : (s.fetched).clock = s.clock := by simp [State.fetched]
@[simp] theorem State.fetched_fault (s : State) : (s.fetched).fault = s.fault := by simp [State.fetched]
@[simp] theorem State.fetched_ie (s : State) : (s.fetched).ie = s.ie := by simp [State.fetched]
@[simp] theorem State.fetched_ifr (s : State) : (s.fetched).ifr = s.ifr := by simp [State.fetched]
@[simp] theorem State.fetched_wram (s : State) : (s.fetched).wram = s.wram := by simp [State.fetched]
@[simp] theorem State.fetched_hram (s : State) : (s.fetched).hram = s.hram := by simp [State.fetched]
@[simp] theorem State.fetched_mbc (s : State) : (s.fetched).mbc = s.mbc := by simp [State.fetched]
@[simp] theorem State.fetched_cram (s : State) : (s.fetched).cram = s.cram := by simp [State.fetched]
@[simp] theorem State.fetched_stub (s : State) : (s.fetched).stub = s.stub := by simp [State.fetched]
@[simp] theorem State.fetchedOpcode_cfg (s : State) : (s.fetchedOpcode).cfg = s.cfg := by unfold State.fetchedOpcode; split <;> simp
@[simp] theorem State.fetchedOpcode_cart (s : State) : (s.fetchedOpcode).cart = s.cart := by unfold State.fetchedOpcode; split <;> simp
@[simp] theorem State.fetchedOpcode_a (s : State) : (s.fetchedOpcode).a = s.a := by unfold State.fetchedOpcode; split <;> simp
@[simp] theorem State.fetchedOpcode_f (s : State) : (s.fetchedOpcode).f = s.f := by unfold State.fetchedOpcode; split <;> simp
@[simp] theorem State.fetchedOpcode_b (s : State) : (s.fetchedOpcode).b = s.b := by unfold State.fetchedOpcode; split <;> simp
@[simp] theorem State.fetchedOpcode_c (s : State) : (s.fetchedOpcode).c = s.c := by unfold State.fetchedOpcode; split <;> simp
@[simp] theorem State.fetchedOpcode_d (s : State) : (s.fetchedOpcode).d = s.d := by unfold State.fetchedOpcode; split <;> simp
@[simp] theorem State.fetchedOpcode_e (s : State) : (s.fetchedOpcode).e = s.e := by unfold State.fetchedOpcode; split <;> simp
@[simp] theorem State.fetchedOpcode_h (s : State) : (s.fetchedOpcode).h = s.h := by unfold State.fetchedOpcode; split <;> simp
@[simp] theorem State.fetchedOpcode_l (s : State) : (s.fetchedOpcode).l = s.l := by unfold State.fetchedOpcode; split <;> simp
@[simp] theorem State.fetchedOpcode_sp (s : State) : (s.fetchedOpcode).sp = s.sp := by unfold State.fetchedOpcode; split <;> simp
@[simp] theorem State.fetchedOpcode_ime (s : State) : (s.fetchedOpcode).ime = s.ime := by unfold State.fetchedOpcode; split <;> simp
@[simp] theorem State.fetchedOpcode_eiPending (s : State) : (s.fetchedOpcode).eiPending = s.eiPending := by unfold State.fetchedOpcode; split <;> simp
@[simp] theorem State.fetchedOpcode_clock (s : State) : (s.fetchedOpcode).clock = s.clock := by unfold State.fetchedOpcode; split <;> simp
@[simp] theorem State.fetchedOpcode_fault (s : State) : (s.fetchedOpcode).fault = s.fault := by unfold State.fetchedOpcode; split <;> simp
@[simp] theorem State.fetchedOpcode_ie (s : State) : (s.fetchedOpcode).ie = s.ie := by unfold State.fetchedOpcode; split <;> simp
@[simp] theorem State.fetchedOpcode_ifr (s : State) : (s.fetchedOpcode).ifr = s.ifr := by unfold State.fetchedOpcode; split <;> simp
@[simp] theorem State.fetchedOpcode_wram (s : State) : (s.fetchedOpcode).wram = s.wram := by unfold State.fetchedOpcode; split <;> simp
@[simp] theorem State.fetchedOpcode_hram (s : State) : (s.fetchedOpcode).hram = s.hram := by unfold State.fetchedOpcode; split <;> simp
@[simp] theorem State.fetchedOpcode_mbc (s : State) : (s.fetchedOpcode).mbc = s.mbc := by unfold State.fetchedOpcode; split <;> simp
@[simp] theorem State.fetchedOpcode_cram (s : State) : (s.fetchedOpcode).cram = s.cram := by unfold State.fetchedOpcode; split <;> simp
@[simp] theorem State.fetchedOpcode_stub (s : State) : (s.fetchedOpcode).stub = s.stub := by unfold State.fetchedOpcode; split <;> simp

/-! ### Wake, commit and rollback -/

@[simp] theorem State.wake_cfg (s : State) : (s.wake).cfg = s.cfg := by unfold State.wake; split <;> rfl
@[simp] theorem State.wake_cart (s : State) : (s.wake).cart = s.cart := by unfold State.wake; split <;> rfl
@[simp] theorem State.wake_a (s : State) : (s.wake).a = s.a := by unfold State.wake; split <;> rfl
@[simp] theorem State.wake_f (s : State) : (s.wake).f = s.f := by unfold State.wake; split <;> rfl
@[simp] theorem State.wake_b (s : State) : (s.wake).b = s.b := by unfold State.wake; split <;> rfl
@[simp] theorem State.wake_c (s : State) : (s.wake).c = s.c := by unfold State.wake; split <;> rfl
@[simp] theorem State.wake_d (s : State) : (s.wake).d = s.d := by unfold State.wake; split <;> rfl
@[simp] theorem State.wake_e (s : State) : (s.wake).e = s.e := by unfold State.wake; split <;> rfl
@[simp] theorem State.wake_h (s : State) : (s.wake).h = s.h := by unfold State.wake; split <;> rfl
@[simp] theorem State.wake_l (s : State) : (s.wake).l = s.l := by unfold State.wake; split <;> rfl
@[simp] theorem State.wake_sp (s : State) : (s.wake).sp = s.sp := by unfold State.wake; split <;> rfl
@[simp] theorem State.wake_pc (s : State) : (s.wake).pc = s.pc := by unfold State.wake; split <;> rfl
@[simp] theorem State.wake_ime (s : State) : (s.wake).ime = s.ime := by unfold State.wake; split <;> rfl
@[simp] theorem State.wake_eiPending (s : State) : (s.wake).eiPending = s.eiPending := by unfold State.wake; split <;> rfl
@[simp] theorem State.wake_clock (s : State) : (s.wake).clock = s.clock := by unfold State.wake; split <;> rfl
@[simp] theorem State.wake_fault (s : State) : (s.wake).fault = s.fault := by unfold State.wake; split <;> rfl
@[simp] theorem State.wake_ie (s : State) : (s.wake).ie = s.ie := by unfold State.wake; split <;> rfl
@[simp] theorem State.wake_ifr (s : State) : (s.wake).ifr = s.ifr := by unfold State.wake; split <;> rfl
@[simp] theorem State.wake_wram (s : State) : (s.wake).wram = s.wram := by unfold State.wake; split <;> rfl
@[simp] theorem State.wake_hram (s : State) : (s.wake).hram = s.hram := by unfold State.wake; split <;> rfl
@[simp] theorem State.wake_mbc (s : State) : (s.wake).mbc = s.mbc := by unfold State.wake; split <;> rfl
@[simp] theorem State.wake_cram (s : State) : (s.wake).cram = s.cram := by unfold State.wake; split <;> rfl
@[simp] theorem State.wake_draws (s : State) : (s.wake).draws = s.draws := by unfold State.wake; split <;> rfl
@[simp] theorem State.wake_stub (s : State) : (s.wake).stub = s.stub := by unfold State.wake; split <;> rfl
@[simp] theorem State.commitEi_cfg (p : Bool) (s : State) : (s.commitEi p).cfg = s.cfg := by unfold State.commitEi; split <;> rfl
@[simp] theorem State.commitEi_cart (p : Bool) (s : State) : (s.commitEi p).cart = s.cart := by unfold State.commitEi; split <;> rfl
@[simp] theorem State.commitEi_a (p : Bool) (s : State) : (s.commitEi p).a = s.a := by unfold State.commitEi; split <;> rfl
@[simp] theorem State.commitEi_f (p : Bool) (s : State) : (s.commitEi p).f = s.f := by unfold State.commitEi; split <;> rfl
@[simp] theorem State.commitEi_b (p : Bool) (s : State) : (s.commitEi p).b = s.b := by unfold State.commitEi; split <;> rfl
@[simp] theorem State.commitEi_c (p : Bool) (s : State) : (s.commitEi p).c = s.c := by unfold State.commitEi; split <;> rfl
@[simp] theorem State.commitEi_d (p : Bool) (s : State) : (s.commitEi p).d = s.d := by unfold State.commitEi; split <;> rfl
@[simp] theorem State.commitEi_e (p : Bool) (s : State) : (s.commitEi p).e = s.e := by unfold State.commitEi; split <;> rfl
@[simp] theorem State.commitEi_h (p : Bool) (s : State) : (s.commitEi p).h = s.h := by unfold State.commitEi; split <;> rfl
@[simp] theorem State.commitEi_l (p : Bool) (s : State) : (s.commitEi p).l = s.l := by unfold State.commitEi; split <;> rfl
@[simp] theorem State.commitEi_sp (p : Bool) (s : State) : (s.commitEi p).sp = s.sp := by unfold State.commitEi; split <;> rfl
@[simp] theorem State.commitEi_pc (p : Bool) (s : State) : (s.commitEi p).pc = s.pc := by unfold State.commitEi; split <;> rfl
@[simp] theorem State.commitEi_mode (p : Bool) (s : State) : (s.commitEi p).mode = s.mode := by unfold State.commitEi; split <;> rfl
@[simp] theorem State.commitEi_clock (p : Bool) (s : State) : (s.commitEi p).clock = s.clock := by unfold State.commitEi; split <;> rfl
@[simp] theorem State.commitEi_fault (p : Bool) (s : State) : (s.commitEi p).fault = s.fault := by unfold State.commitEi; split <;> rfl
@[simp] theorem State.commitEi_ie (p : Bool) (s : State) : (s.commitEi p).ie = s.ie := by unfold State.commitEi; split <;> rfl
@[simp] theorem State.commitEi_ifr (p : Bool) (s : State) : (s.commitEi p).ifr = s.ifr := by unfold State.commitEi; split <;> rfl
@[simp] theorem State.commitEi_wram (p : Bool) (s : State) : (s.commitEi p).wram = s.wram := by unfold State.commitEi; split <;> rfl
@[simp] theorem State.commitEi_hram (p : Bool) (s : State) : (s.commitEi p).hram = s.hram := by unfold State.commitEi; split <;> rfl
@[simp] theorem State.commitEi_mbc (p : Bool) (s : State) : (s.commitEi p).mbc = s.mbc := by unfold State.commitEi; split <;> rfl
@[simp] theorem State.commitEi_cram (p : Bool) (s : State) : (s.commitEi p).cram = s.cram := by unfold State.commitEi; split <;> rfl
@[simp] theorem State.commitEi_draws (p : Bool) (s : State) : (s.commitEi p).draws = s.draws := by unfold State.commitEi; split <;> rfl
@[simp] theorem State.commitEi_stub (p : Bool) (s : State) : (s.commitEi p).stub = s.stub := by unfold State.commitEi; split <;> rfl
@[simp] theorem State.rolledBack_cfg (before : State) (s : State) : (s.rolledBack before).cfg = before.cfg := rfl
@[simp] theorem State.rolledBack_cart (before : State) (s : State) : (s.rolledBack before).cart = before.cart := rfl
@[simp] theorem State.rolledBack_a (before : State) (s : State) : (s.rolledBack before).a = before.a := rfl
@[simp] theorem State.rolledBack_f (before : State) (s : State) : (s.rolledBack before).f = before.f := rfl
@[simp] theorem State.rolledBack_b (before : State) (s : State) : (s.rolledBack before).b = before.b := rfl
@[simp] theorem State.rolledBack_c (before : State) (s : State) : (s.rolledBack before).c = before.c := rfl
@[simp] theorem State.rolledBack_d (before : State) (s : State) : (s.rolledBack before).d = before.d := rfl
@[simp] theorem State.rolledBack_e (before : State) (s : State) : (s.rolledBack before).e = before.e := rfl
@[simp] theorem State.rolledBack_h (before : State) (s : State) : (s.rolledBack before).h = before.h := rfl
@[simp] theorem State.rolledBack_l (before : State) (s : State) : (s.rolledBack before).l = before.l := rfl
@[simp] theorem State.rolledBack_sp (before : State) (s : State) : (s.rolledBack before).sp = before.sp := rfl
@[simp] theorem State.rolledBack_pc (before : State) (s : State) : (s.rolledBack before).pc = before.pc := rfl
@[simp] theorem State.rolledBack_ime (before : State) (s : State) : (s.rolledBack before).ime = before.ime := rfl
@[simp] theorem State.rolledBack_eiPending (before : State) (s : State) : (s.rolledBack before).eiPending = before.eiPending := rfl
@[simp] theorem State.rolledBack_mode (before : State) (s : State) : (s.rolledBack before).mode = before.mode := rfl
@[simp] theorem State.rolledBack_clock (before : State) (s : State) : (s.rolledBack before).clock = before.clock := rfl
@[simp] theorem State.rolledBack_fault (before : State) (s : State) : (s.rolledBack before).fault = s.fault := rfl
@[simp] theorem State.rolledBack_ie (before : State) (s : State) : (s.rolledBack before).ie = before.ie := rfl
@[simp] theorem State.rolledBack_ifr (before : State) (s : State) : (s.rolledBack before).ifr = before.ifr := rfl
@[simp] theorem State.rolledBack_wram (before : State) (s : State) : (s.rolledBack before).wram = before.wram := rfl
@[simp] theorem State.rolledBack_hram (before : State) (s : State) : (s.rolledBack before).hram = before.hram := rfl
@[simp] theorem State.rolledBack_mbc (before : State) (s : State) : (s.rolledBack before).mbc = before.mbc := rfl
@[simp] theorem State.rolledBack_cram (before : State) (s : State) : (s.rolledBack before).cram = before.cram := rfl
@[simp] theorem State.rolledBack_draws (before : State) (s : State) : (s.rolledBack before).draws = s.draws := rfl
@[simp] theorem State.rolledBack_stub (before : State) (s : State) : (s.rolledBack before).stub = before.stub := rfl

/-! ### Register reads after register writes -/

@[simp] theorem State.getR_setR_same (r : Reg8) (v : Byte) (s : State) : (s.setR r v).getR r = v := by
  cases r <;> rfl

theorem State.getR_setR_other {r r' : Reg8} (h : r' ≠ r) (v : Byte) (s : State) :
    (s.setR r v).getR r' = s.getR r' := by
  cases r <;> cases r' <;> first | rfl | exact absurd rfl h

@[simp] theorem State.setR_a_a (v : Byte) (s : State) : s.setR .a v = { s with a := v } := rfl

@[simp] theorem State.getR_readEff (x : Word) (r : Reg8) (s : State) : (s.readEff x).getR r = s.getR r := by
  cases r <;> simp [State.getR]

@[simp] theorem State.getR_busWrite (x : Word) (v : Byte) (r : Reg8) (s : State) :
    (s.busWrite x v).getR r = s.getR r := by
  cases r <;> simp [State.getR]

@[simp] theorem State.getR_setFlags (fl : Flags) (r : Reg8) (s : State) : (s.setFlags fl).getR r = s.getR r := by
  cases r <;> rfl

@[simp] theorem State.hl_readEff (x : Word) (s : State) : (s.readEff x).hl = s.hl := by simp [State.hl]

@[simp] theorem State.flags_readEff (x : Word) (s : State) : (s.readEff x).flags = s.flags := by
  simp [State.flags]

end Sys2Proof.Machine
end

