-- ==== Sys2Proof/Laws/Bus.lean ====
section
/-! SUPPORT. The bus router region by region: the range of each region (R90), and that every bus write keeps the
well-formed states. -/

namespace Sys2Proof.Machine

/-! ### Ranges (R90) -/

theorem region_eq_rom {a : Word} : region a = .rom ↔ a.toNat ≤ 0x7FFF := by
  have ha : a.toNat < 65536 := a.isLt
  unfold region
  (repeat' split) <;> simp <;> omega

theorem region_eq_vram {a : Word} : region a = .vram ↔ 0x8000 ≤ a.toNat ∧ a.toNat ≤ 0x9FFF := by
  have ha : a.toNat < 65536 := a.isLt
  unfold region
  (repeat' split) <;> simp <;> omega

theorem region_eq_cartRam {a : Word} : region a = .cartRam ↔ 0xA000 ≤ a.toNat ∧ a.toNat ≤ 0xBFFF := by
  have ha : a.toNat < 65536 := a.isLt
  unfold region
  (repeat' split) <;> simp <;> omega

theorem region_eq_wram {a : Word} : region a = .wram ↔ 0xC000 ≤ a.toNat ∧ a.toNat ≤ 0xDFFF := by
  have ha : a.toNat < 65536 := a.isLt
  unfold region
  (repeat' split) <;> simp <;> omega

theorem region_eq_mirror {a : Word} : region a = .mirror ↔ 0xE000 ≤ a.toNat ∧ a.toNat ≤ 0xFDFF := by
  have ha : a.toNat < 65536 := a.isLt
  unfold region
  (repeat' split) <;> simp <;> omega

theorem region_eq_oam {a : Word} : region a = .oam ↔ 0xFE00 ≤ a.toNat ∧ a.toNat ≤ 0xFE9F := by
  have ha : a.toNat < 65536 := a.isLt
  unfold region
  (repeat' split) <;> simp <;> omega

theorem region_eq_unusable {a : Word} : region a = .unusable ↔ 0xFEA0 ≤ a.toNat ∧ a.toNat ≤ 0xFEFF := by
  have ha : a.toNat < 65536 := a.isLt
  unfold region
  (repeat' split) <;> simp <;> omega

theorem region_eq_ifReg {a : Word} : region a = .ifReg ↔ a.toNat = 0xFF0F := by
  have ha : a.toNat < 65536 := a.isLt
  unfold region
  (repeat' split) <;> simp <;> omega

theorem region_eq_periph {a : Word} : region a = .periph ↔ 0xFF00 ≤ a.toNat ∧ a.toNat ≤ 0xFF7F ∧ a.toNat ≠ 0xFF0F := by
  have ha : a.toNat < 65536 := a.isLt
  unfold region
  (repeat' split) <;> simp <;> omega

theorem region_eq_hram {a : Word} : region a = .hram ↔ 0xFF80 ≤ a.toNat ∧ a.toNat ≤ 0xFFFE := by
  have ha : a.toNat < 65536 := a.isLt
  unfold region
  (repeat' split) <;> simp <;> omega

theorem region_eq_ieReg {a : Word} : region a = .ieReg ↔ a.toNat = 0xFFFF := by
  have ha : a.toNat < 65536 := a.isLt
  unfold region
  (repeat' split) <;> simp <;> omega

/-! ### Well-formed states -/

theorem Sel.hasRtc_of_rtc {hasRtc : Bool} {v : Byte} {reg : RtcReg}
    (h : Sel.ofByte hasRtc v = some (.rtc reg)) : hasRtc = true := by
  unfold Sel.ofByte at h
  (repeat' split at h) <;> simp_all

theorem Mbc.wf_control {m : Mbc} (h : m.wf = true) (w : ControlWindow) (v : Byte) : (m.control w v).wf = true := by
  cases m with
  | romOnly => rfl
  | mbc1 m =>
    cases w <;> simp only [Mbc.control, Mbc1.control, Mbc.wf] at h ⊢ <;> try exact h
    split <;> simp_all
  | mbc3 m =>
    simp only [Mbc.wf, Bool.and_eq_true, decide_eq_true_eq] at h
    cases w with
    | enable => simpa [Mbc.control, Mbc3.control, Mbc.wf] using h
    | latch => simpa [Mbc.control, Mbc3.control, Mbc.wf] using h
    | romBank =>
      simp only [Mbc.control, Mbc3.control, Mbc.wf, Bool.and_eq_true, decide_eq_true_eq]
      refine ⟨?_, h.2⟩
      split <;> simp_all
    | ramBank =>
      simp only [Mbc.control, Mbc3.control, Mbc.wf, Bool.and_eq_true, decide_eq_true_eq]
      refine ⟨h.1, ?_⟩
      cases hsel : Sel.ofByte m.hasRtc v with
      | none => exact h.2
      | some sel =>
        cases sel with
        | ram _ => rfl
        | rtc _ => exact Sel.hasRtc_of_rtc hsel

theorem Mbc.wf_writeRtc {m : Mbc} (h : m.wf = true) (reg : RtcReg) (v : Byte) : (m.writeRtc reg v).wf = true := by
  cases m <;> exact h

theorem State.Inv.controlWrite {s : State} (h : s.Inv) (a : Word) (v : Byte) : (s.controlWrite a v).Inv :=
  { h with mbc := Mbc.wf_control h.mbc _ v }

theorem State.Inv.periphWrite {s : State} (h : s.Inv) (a : Word) (v : Byte) : (s.periphWrite a v).Inv := by
  unfold State.periphWrite
  split
  · exact { h with }
  · exact { h with stub := Memory.wf_write h.stub a.isLt _ }

theorem State.ramTarget_cram_lt {s : State} {a : Word} {offset : Nat} (h : s.ramTarget a = .cram offset) :
    offset < s.cart.ramSize := by
  have key : ∀ bank : Nat, s.cart.ramSize ≠ 0 → ramOffset bank s.cart.ramSize a < s.cart.ramSize :=
    fun _ hz => Nat.mod_lt _ (Nat.pos_of_ne_zero hz)
  unfold State.ramTarget at h
  (repeat' split at h) <;> simp at h
  next hz => subst h; exact key _ (by simp_all)
  next hz => subst h; exact key _ (by simp_all)

theorem State.Inv.ramWrite {s : State} (h : s.Inv) (a : Word) (v : Byte) : (s.ramWrite a v).Inv := by
  unfold State.ramWrite
  split
  · exact h
  next offset ht => exact { h with cram := Memory.wf_write h.cram (State.ramTarget_cram_lt ht) v }
  next reg _ => exact { h with mbc := Mbc.wf_writeRtc h.mbc reg v }

/-- A bus write keeps the well-formed states, and so the canonical form of every storage. -/
theorem State.Inv.busWrite {s : State} (h : s.Inv) (a : Word) (v : Byte) : (s.busWrite a v).Inv := by
  unfold State.busWrite
  split
  · exact h.controlWrite a v
  · exact h.periphWrite a v
  · exact h.ramWrite a v
  next hr =>
    rw [region_eq_wram] at hr
    exact { h with wram := Memory.wf_write h.wram (by omega) v }
  next hr =>
    rw [region_eq_mirror] at hr
    exact { h with wram := Memory.wf_write h.wram (by omega) v }
  · exact h.periphWrite a v
  · exact h
  · exact { h with }
  · split
    · exact h.periphWrite a v
    · exact h
  next hr =>
    rw [region_eq_hram] at hr
    exact { h with hram := Memory.wf_write h.hram (by omega) v }
  · exact { h with }

/-- A bus read keeps the well-formed states. -/
theorem State.Inv.readEff {s : State} (h : s.Inv) (a : Word) : (s.readEff a).Inv := by
  unfold State.readEff State.countDraw
  split
  · split
    · exact { h with }
    · exact h
  · exact h

/-- A bus read changes the state, if at all, by counting one draw of the peripheral oracle. -/
theorem State.readEff_eq (a : Word) (s : State) :
    s.readEff a = if s.servedByPeriph a = true ∧ s.cfg.periph = .oracle then { s with draws := s.draws + 1 } else s := by
  unfold State.readEff State.countDraw
  cases hp : s.cfg.periph <;> cases hs : s.servedByPeriph a <;> simp

/-- Away from the peripherals a bus read changes nothing. -/
theorem State.readEff_eq_self {a : Word} {s : State} (h : s.servedByPeriph a = false) : s.readEff a = s := by
  simp [State.readEff, h]

end Sys2Proof.Machine
end

