-- ==== Sys2Proof/Laws/Bytes.lean ====
section
/-! SUPPORT. A word is its two bytes, and a flag byte is its four flags. -/

namespace Sys2Proof

@[simp] theorem ofBytes_hiByte_loByte (v : Word) : ofBytes (hiByte v) (loByte v) = v := by
  apply BitVec.eq_of_getLsbD_eq
  intro i hi
  simp only [ofBytes, hiByte, loByte, BitVec.getLsbD_append, BitVec.getLsbD_extractLsb']
  by_cases h : i < 8
  · simp [h]
  · have h2 : i - 8 < 8 := by omega
    have h3 : 8 + (i - 8) = i := by omega
    simp [h, h2, h3]

@[simp] theorem hiByte_ofBytes (hi lo : Byte) : hiByte (ofBytes hi lo) = hi := by
  apply BitVec.eq_of_getLsbD_eq
  intro i hi'
  simp only [ofBytes, hiByte, BitVec.getLsbD_append, BitVec.getLsbD_extractLsb']
  have h : ¬ 8 + i < 8 := by omega
  have h2 : 8 + i - 8 = i := by omega
  simp [h, h2, hi']

@[simp] theorem loByte_ofBytes (hi lo : Byte) : loByte (ofBytes hi lo) = lo := by
  apply BitVec.eq_of_getLsbD_eq
  intro i hi'
  simp only [ofBytes, loByte, BitVec.getLsbD_append, BitVec.getLsbD_extractLsb']
  simp [hi']

namespace Machine

@[simp] theorem Flags.ofByte_toByte (fl : Flags) : Flags.ofByte fl.toByte = fl := by
  obtain ⟨z, n, h, c⟩ := fl
  cases z <;> cases n <;> cases h <;> cases c <;> decide

@[simp] theorem Flags.toByte_low (fl : Flags) : fl.toByte &&& 0x0F = 0 := by
  obtain ⟨z, n, h, c⟩ := fl
  cases z <;> cases n <;> cases h <;> cases c <;> decide

theorem Flags.toByte_ofByte {v : Byte} (h : v &&& 0x0F = 0) : (Flags.ofByte v).toByte = v := by
  revert v
  decide

@[simp] theorem State.flags_setFlags (fl : Flags) (s : State) : (s.setFlags fl).flags = fl :=
  Flags.ofByte_toByte fl

end Machine

end Sys2Proof
end

