-- ==== Sys2Proof/Laws/Instr.lean ====
section
/-! SUPPORT. Case analysis on an instruction by family: 28 families of rows that differ in an operand field, and the 41
rows that stand alone. -/

namespace Sys2Proof

/-- To prove something of every instruction, prove it of every family and of every row that stands alone. -/
theorem Instr.byFamily {P : Instr → Prop}
    (ldRegReg : ∀ (r : Reg8) (r' : Reg8), P (.ldRegReg r r'))
    (ldRegImm : ∀ (r : Reg8) (n : Byte), P (.ldRegImm r n))
    (ldRegAtHL : ∀ (r : Reg8), P (.ldRegAtHL r))
    (ldAtHLReg : ∀ (r : Reg8), P (.ldAtHLReg r))
    (ldPairImm : ∀ (rr : Reg16) (nn : Word), P (.ldPairImm rr nn))
    (pushPair : ∀ (rr : RegStk), P (.pushPair rr))
    (popPair : ∀ (rr : RegStk), P (.popPair rr))
    (addHLPair : ∀ (rr : Reg16), P (.addHLPair rr))
    (incPair : ∀ (rr : Reg16), P (.incPair rr))
    (decPair : ∀ (rr : Reg16), P (.decPair rr))
    (aluReg : ∀ (op : AluOp) (r : Reg8), P (.aluReg op r))
    (aluAtHL : ∀ (op : AluOp), P (.aluAtHL op))
    (aluImm : ∀ (op : AluOp) (n : Byte), P (.aluImm op n))
    (incReg : ∀ (r : Reg8), P (.incReg r))
    (decReg : ∀ (r : Reg8), P (.decReg r))
    (rotReg : ∀ (op : RotOp) (r : Reg8), P (.rotReg op r))
    (rotAtHL : ∀ (op : RotOp), P (.rotAtHL op))
    (bitReg : ∀ (k : Fin 8) (r : Reg8), P (.bitReg k r))
    (bitAtHL : ∀ (k : Fin 8), P (.bitAtHL k))
    (resReg : ∀ (k : Fin 8) (r : Reg8), P (.resReg k r))
    (resAtHL : ∀ (k : Fin 8), P (.resAtHL k))
    (setReg : ∀ (k : Fin 8) (r : Reg8), P (.setReg k r))
    (setAtHL : ∀ (k : Fin 8), P (.setAtHL k))
    (jpCond : ∀ (cc : Cond) (nn : Word), P (.jpCond cc nn))
    (jrCond : ∀ (cc : Cond) (n : Byte), P (.jrCond cc n))
    (callCond : ∀ (cc : Cond) (nn : Word), P (.callCond cc nn))
    (retCond : ∀ (cc : Cond), P (.retCond cc))
    (rst : ∀ (k : Fin 8), P (.rst k))
    (invalid : ∀ (op : Byte), P (.invalid op))
    (nop : P .nop)
    (ld_atBC_a : P .ld_atBC_a)
    (rlca : P .rlca)
    (ld_atNN_sp : ∀ (nn : Word), P (.ld_atNN_sp nn))
    (ld_a_atBC : P .ld_a_atBC)
    (rrca : P .rrca)
    (stop : ∀ (n : Byte), P (.stop n))
    (ld_atDE_a : P .ld_atDE_a)
    (rla : P .rla)
    (jr_e : ∀ (e : Byte), P (.jr_e e))
    (ld_a_atDE : P .ld_a_atDE)
    (rra : P .rra)
    (ld_atHLinc_a : P .ld_atHLinc_a)
    (daa : P .daa)
    (ld_a_atHLinc : P .ld_a_atHLinc)
    (cpl : P .cpl)
    (ld_atHLdec_a : P .ld_atHLdec_a)
    (inc_atHL : P .inc_atHL)
    (dec_atHL : P .dec_atHL)
    (ld_atHL_n : ∀ (n : Byte), P (.ld_atHL_n n))
    (scf : P .scf)
    (ld_a_atHLdec : P .ld_a_atHLdec)
    (ccf : P .ccf)
    (halt : P .halt)
    (jp_nn : ∀ (nn : Word), P (.jp_nn nn))
    (ret : P .ret)
    (call_nn : ∀ (nn : Word), P (.call_nn nn))
    (reti : P .reti)
    (ldh_atN_a : ∀ (n : Byte), P (.ldh_atN_a n))
    (ldh_atC_a : P .ldh_atC_a)
    (add_sp_e : ∀ (e : Byte), P (.add_sp_e e))
    (jp_hl : P .jp_hl)
    (ld_atNN_a : ∀ (nn : Word), P (.ld_atNN_a nn))
    (ldh_a_atN : ∀ (n : Byte), P (.ldh_a_atN n))
    (ldh_a_atC : P .ldh_a_atC)
    (di : P .di)
    (ld_hl_spPlusE : ∀ (e : Byte), P (.ld_hl_spPlusE e))
    (ld_sp_hl : P .ld_sp_hl)
    (ld_a_atNN : ∀ (nn : Word), P (.ld_a_atNN nn))
    (ei : P .ei)
    : ∀ i : Instr, P i
  | .invalid op => invalid op
  | .nop => nop
  | .ld_bc_nn nn => ldPairImm .bc nn
  | .ld_atBC_a => ld_atBC_a
  | .inc_bc => incPair .bc
  | .inc_b => incReg .b
  | .dec_b => decReg .b
  | .ld_b_n n => ldRegImm .b n
  | .rlca => rlca
  | .ld_atNN_sp nn => ld_atNN_sp nn
  | .add_hl_bc => addHLPair .bc
  | .ld_a_atBC => ld_a_atBC
  | .dec_bc => decPair .bc
  | .inc_c => incReg .c
  | .dec_c => decReg .c
  | .ld_c_n n => ldRegImm .c n
  | .rrca => rrca
  | .stop n => stop n
  | .ld_de_nn nn => ldPairImm .de nn
  | .ld_atDE_a => ld_atDE_a
  | .inc_de => incPair .de
  | .inc_d => incReg .d
  | .dec_d => decReg .d
  | .ld_d_n n => ldRegImm .d n
  | .rla => rla
  | .jr_e e => jr_e e
  | .add_hl_de => addHLPair .de
  | .ld_a_atDE => ld_a_atDE
  | .dec_de => decPair .de
  | .inc_e => incReg .e
  | .dec_e => decReg .e
  | .ld_e_n n => ldRegImm .e n
  | .rra => rra
  | .jr_nz_e e => jrCond .nz e
  | .ld_hl_nn nn => ldPairImm .hl nn
  | .ld_atHLinc_a => ld_atHLinc_a
  | .inc_hl => incPair .hl
  | .inc_h => incReg .h
  | .dec_h => decReg .h
  | .ld_h_n n => ldRegImm .h n
  | .daa => daa
  | .jr_z_e e => jrCond .z e
  | .add_hl_hl => addHLPair .hl
  | .ld_a_atHLinc => ld_a_atHLinc
  | .dec_hl => decPair .hl
  | .inc_l => incReg .l
  | .dec_l => decReg .l
  | .ld_l_n n => ldRegImm .l n
  | .cpl => cpl
  | .jr_nc_e e => jrCond .nc e
  | .ld_sp_nn nn => ldPairImm .sp nn
  | .ld_atHLdec_a => ld_atHLdec_a
  | .inc_sp => incPair .sp
  | .inc_atHL => inc_atHL
  | .dec_atHL => dec_atHL
  | .ld_atHL_n n => ld_atHL_n n
  | .scf => scf
  | .jr_c_e e => jrCond .c e
  | .add_hl_sp => addHLPair .sp
  | .ld_a_atHLdec => ld_a_atHLdec
  | .dec_sp => decPair .sp
  | .inc_a => incReg .a
  | .dec_a => decReg .a
  | .ld_a_n n => ldRegImm .a n
  | .ccf => ccf
  | .ld_b_b => ldRegReg .b .b
  | .ld_b_c => ldRegReg .b .c
  | .ld_b_d => ldRegReg .b .d
  | .ld_b_e => ldRegReg .b .e
  | .ld_b_h => ldRegReg .b .h
  | .ld_b_l => ldRegReg .b .l
  | .ld_b_atHL => ldRegAtHL .b
  | .ld_b_a => ldRegReg .b .a
  | .ld_c_b => ldRegReg .c .b
  | .ld_c_c => ldRegReg .c .c
  | .ld_c_d => ldRegReg .c .d
  | .ld_c_e => ldRegReg .c .e
  | .ld_c_h => ldRegReg .c .h
  | .ld_c_l => ldRegReg .c .l
  | .ld_c_atHL => ldRegAtHL .c
  | .ld_c_a => ldRegReg .c .a
  | .ld_d_b => ldRegReg .d .b
  | .ld_d_c => ldRegReg .d .c
  | .ld_d_d => ldRegReg .d .d
  | .ld_d_e => ldRegReg .d .e
  | .ld_d_h => ldRegReg .d .h
  | .ld_d_l => ldRegReg .d .l
  | .ld_d_atHL => ldRegAtHL .d
  | .ld_d_a => ldRegReg .d .a
  | .ld_e_b => ldRegReg .e .b
  | .ld_e_c => ldRegReg .e .c
  | .ld_e_d => ldRegReg .e .d
  | .ld_e_e => ldRegReg .e .e
  | .ld_e_h => ldRegReg .e .h
  | .ld_e_l => ldRegReg .e .l
  | .ld_e_atHL => ldRegAtHL .e
  | .ld_e_a => ldRegReg .e .a
  | .ld_h_b => ldRegReg .h .b
  | .ld_h_c => ldRegReg .h .c
  | .ld_h_d => ldRegReg .h .d
  | .ld_h_e => ldRegReg .h .e
  | .ld_h_h => ldRegReg .h .h
  | .ld_h_l => ldRegReg .h .l
  | .ld_h_atHL => ldRegAtHL .h
  | .ld_h_a => ldRegReg .h .a
  | .ld_l_b => ldRegReg .l .b
  | .ld_l_c => ldRegReg .l .c
  | .ld_l_d => ldRegReg .l .d
  | .ld_l_e => ldRegReg .l .e
  | .ld_l_h => ldRegReg .l .h
  | .ld_l_l => ldRegReg .l .l
  | .ld_l_atHL => ldRegAtHL .l
  | .ld_l_a => ldRegReg .l .a
  | .ld_atHL_b => ldAtHLReg .b
  | .ld_atHL_c => ldAtHLReg .c
  | .ld_atHL_d => ldAtHLReg .d
  | .ld_atHL_e => ldAtHLReg .e
  | .ld_atHL_h => ldAtHLReg .h
  | .ld_atHL_l => ldAtHLReg .l
  | .halt => halt
  | .ld_atHL_a => ldAtHLReg .a
  | .ld_a_b => ldRegReg .a .b
  | .ld_a_c => ldRegReg .a .c
  | .ld_a_d => ldRegReg .a .d
  | .ld_a_e => ldRegReg .a .e
  | .ld_a_h => ldRegReg .a .h
  | .ld_a_l => ldRegReg .a .l
  | .ld_a_atHL => ldRegAtHL .a
  | .ld_a_a => ldRegReg .a .a
  | .add_a_b => aluReg .add .b
  | .add_a_c => aluReg .add .c
  | .add_a_d => aluReg .add .d
  | .add_a_e => aluReg .add .e
  | .add_a_h => aluReg .add .h
  | .add_a_l => aluReg .add .l
  | .add_a_atHL => aluAtHL .add
  | .add_a_a => aluReg .add .a
  | .adc_a_b => aluReg .adc .b
  | .adc_a_c => aluReg .adc .c
  | .adc_a_d => aluReg .adc .d
  | .adc_a_e => aluReg .adc .e
  | .adc_a_h => aluReg .adc .h
  | .adc_a_l => aluReg .adc .l
  | .adc_a_atHL => aluAtHL .adc
  | .adc_a_a => aluReg .adc .a
  | .sub_b => aluReg .sub .b
  | .sub_c => aluReg .sub .c
  | .sub_d => aluReg .sub .d
  | .sub_e => aluReg .sub .e
  | .sub_h => aluReg .sub .h
  | .sub_l => aluReg .sub .l
  | .sub_atHL => aluAtHL .sub
  | .sub_a => aluReg .sub .a
  | .sbc_a_b => aluReg .sbc .b
  | .sbc_a_c => aluReg .sbc .c
  | .sbc_a_d => aluReg .sbc .d
  | .sbc_a_e => aluReg .sbc .e
  | .sbc_a_h => aluReg .sbc .h
  | .sbc_a_l => aluReg .sbc .l
  | .sbc_a_atHL => aluAtHL .sbc
  | .sbc_a_a => aluReg .sbc .a
  | .and_b => aluReg .and .b
  | .and_c => aluReg .and .c
  | .and_d => aluReg .and .d
  | .and_e => aluReg .and .e
  | .and_h => aluReg .and .h
  | .and_l => aluReg .and .l
  | .and_atHL => aluAtHL .and
  | .and_a => aluReg .and .a
  | .xor_b => aluReg .xor .b
  | .xor_c => aluReg .xor .c
  | .xor_d => aluReg .xor .d
  | .xor_e => aluReg .xor .e
  | .xor_h => aluReg .xor .h
  | .xor_l => aluReg .xor .l
  | .xor_atHL => aluAtHL .xor
  | .xor_a => aluReg .xor .a
  | .or_b => aluReg .or .b
  | .or_c => aluReg .or .c
  | .or_d => aluReg .or .d
  | .or_e => aluReg .or .e
  | .or_h => aluReg .or .h
  | .or_l => aluReg .or .l
  | .or_atHL => aluAtHL .or
  | .or_a => aluReg .or .a
  | .cp_b => aluReg .cp .b
  | .cp_c => aluReg .cp .c
  | .cp_d => aluReg .cp .d
  | .cp_e => aluReg .cp .e
  | .cp_h => aluReg .cp .h
  | .cp_l => aluReg .cp .l
  | .cp_atHL => aluAtHL .cp
  | .cp_a => aluReg .cp .a
  | .ret_nz => retCond .nz
  | .pop_bc => popPair .bc
  | .jp_nz_nn nn => jpCond .nz nn
  | .jp_nn nn => jp_nn nn
  | .call_nz_nn nn => callCond .nz nn
  | .push_bc => pushPair .bc
  | .add_a_n n => aluImm .add n
  | .rst_0x00 => rst 0
  | .ret_z => retCond .z
  | .ret => ret
  | .jp_z_nn nn => jpCond .z nn
  | .call_z_nn nn => callCond .z nn
  | .call_nn nn => call_nn nn
  | .adc_a_n n => aluImm .adc n
  | .rst_0x08 => rst 1
  | .ret_nc => retCond .nc
  | .pop_de => popPair .de
  | .jp_nc_nn nn => jpCond .nc nn
  | .call_nc_nn nn => callCond .nc nn
  | .push_de => pushPair .de
  | .sub_n n => aluImm .sub n
  | .rst_0x10 => rst 2
  | .ret_c => retCond .c
  | .reti => reti
  | .jp_c_nn nn => jpCond .c nn
  | .call_c_nn nn => callCond .c nn
  | .sbc_a_n n => aluImm .sbc n
  | .rst_0x18 => rst 3
  | .ldh_atN_a n => ldh_atN_a n
  | .pop_hl => popPair .hl
  | .ldh_atC_a => ldh_atC_a
  | .push_hl => pushPair .hl
  | .and_n n => aluImm .and n
  | .rst_0x20 => rst 4
  | .add_sp_e e => add_sp_e e
  | .jp_hl => jp_hl
  | .ld_atNN_a nn => ld_atNN_a nn
  | .xor_n n => aluImm .xor n
  | .rst_0x28 => rst 5
  | .ldh_a_atN n => ldh_a_atN n
  | .pop_af => popPair .af
  | .ldh_a_atC => ldh_a_atC
  | .di => di
  | .push_af => pushPair .af
  | .or_n n => aluImm .or n
  | .rst_0x30 => rst 6
  | .ld_hl_spPlusE e => ld_hl_spPlusE e
  | .ld_sp_hl => ld_sp_hl
  | .ld_a_atNN nn => ld_a_atNN nn
  | .ei => ei
  | .cp_n n => aluImm .cp n
  | .rst_0x38 => rst 7
  | .rlc_b => rotReg .rlc .b
  | .rlc_c => rotReg .rlc .c
  | .rlc_d => rotReg .rlc .d
  | .rlc_e => rotReg .rlc .e
  | .rlc_h => rotReg .rlc .h
  | .rlc_l => rotReg .rlc .l
  | .rlc_atHL => rotAtHL .rlc
  | .rlc_a => rotReg .rlc .a
  | .rrc_b => rotReg .rrc .b
  | .rrc_c => rotReg .rrc .c
  | .rrc_d => rotReg .rrc .d
  | .rrc_e => rotReg .rrc .e
  | .rrc_h => rotReg .rrc .h
  | .rrc_l => rotReg .rrc .l
  | .rrc_atHL => rotAtHL .rrc
  | .rrc_a => rotReg .rrc .a
  | .rl_b => rotReg .rl .b
  | .rl_c => rotReg .rl .c
  | .rl_d => rotReg .rl .d
  | .rl_e => rotReg .rl .e
  | .rl_h => rotReg .rl .h
  | .rl_l => rotReg .rl .l
  | .rl_atHL => rotAtHL .rl
  | .rl_a => rotReg .rl .a
  | .rr_b => rotReg .rr .b
  | .rr_c => rotReg .rr .c
  | .rr_d => rotReg .rr .d
  | .rr_e => rotReg .rr .e
  | .rr_h => rotReg .rr .h
  | .rr_l => rotReg .rr .l
  | .rr_atHL => rotAtHL .rr
  | .rr_a => rotReg .rr .a
  | .sla_b => rotReg .sla .b
  | .sla_c => rotReg .sla .c
  | .sla_d => rotReg .sla .d
  | .sla_e => rotReg .sla .e
  | .sla_h => rotReg .sla .h
  | .sla_l => rotReg .sla .l
  | .sla_atHL => rotAtHL .sla
  | .sla_a => rotReg .sla .a
  | .sra_b => rotReg .sra .b
  | .sra_c => rotReg .sra .c
  | .sra_d => rotReg .sra .d
  | .sra_e => rotReg .sra .e
  | .sra_h => rotReg .sra .h
  | .sra_l => rotReg .sra .l
  | .sra_atHL => rotAtHL .sra
  | .sra_a => rotReg .sra .a
  | .swap_b => rotReg .swap .b
  | .swap_c => rotReg .swap .c
  | .swap_d => rotReg .swap .d
  | .swap_e => rotReg .swap .e
  | .swap_h => rotReg .swap .h
  | .swap_l => rotReg .swap .l
  | .swap_atHL => rotAtHL .swap
  | .swap_a => rotReg .swap .a
  | .srl_b => rotReg .srl .b
  | .srl_c => rotReg .srl .c
  | .srl_d => rotReg .srl .d
  | .srl_e => rotReg .srl .e
  | .srl_h => rotReg .srl .h
  | .srl_l => rotReg .srl .l
  | .srl_atHL => rotAtHL .srl
  | .srl_a => rotReg .srl .a
  | .bit_0_b => bitReg 0 .b
  | .bit_0_c => bitReg 0 .c
  | .bit_0_d => bitReg 0 .d
  | .bit_0_e => bitReg 0 .e
  | .bit_0_h => bitReg 0 .h
  | .bit_0_l => bitReg 0 .l
  | .bit_0_atHL => bitAtHL 0
  | .bit_0_a => bitReg 0 .a
  | .bit_1_b => bitReg 1 .b
  | .bit_1_c => bitReg 1 .c
  | .bit_1_d => bitReg 1 .d
  | .bit_1_e => bitReg 1 .e
  | .bit_1_h => bitReg 1 .h
  | .bit_1_l => bitReg 1 .l
  | .bit_1_atHL => bitAtHL 1
  | .bit_1_a => bitReg 1 .a
  | .bit_2_b => bitReg 2 .b
  | .bit_2_c => bitReg 2 .c
  | .bit_2_d => bitReg 2 .d
  | .bit_2_e => bitReg 2 .e
  | .bit_2_h => bitReg 2 .h
  | .bit_2_l => bitReg 2 .l
  | .bit_2_atHL => bitAtHL 2
  | .bit_2_a => bitReg 2 .a
  | .bit_3_b => bitReg 3 .b
  | .bit_3_c => bitReg 3 .c
  | .bit_3_d => bitReg 3 .d
  | .bit_3_e => bitReg 3 .e
  | .bit_3_h => bitReg 3 .h
  | .bit_3_l => bitReg 3 .l
  | .bit_3_atHL => bitAtHL 3
  | .bit_3_a => bitReg 3 .a
  | .bit_4_b => bitReg 4 .b
  | .bit_4_c => bitReg 4 .c
  | .bit_4_d => bitReg 4 .d
  | .bit_4_e => bitReg 4 .e
  | .bit_4_h => bitReg 4 .h
  | .bit_4_l => bitReg 4 .l
  | .bit_4_atHL => bitAtHL 4
  | .bit_4_a => bitReg 4 .a
  | .bit_5_b => bitReg 5 .b
  | .bit_5_c => bitReg 5 .c
  | .bit_5_d => bitReg 5 .d
  | .bit_5_e => bitReg 5 .e
  | .bit_5_h => bitReg 5 .h
  | .bit_5_l => bitReg 5 .l
  | .bit_5_atHL => bitAtHL 5
  | .bit_5_a => bitReg 5 .a
  | .bit_6_b => bitReg 6 .b
  | .bit_6_c => bitReg 6 .c
  | .bit_6_d => bitReg 6 .d
  | .bit_6_e => bitReg 6 .e
  | .bit_6_h => bitReg 6 .h
  | .bit_6_l => bitReg 6 .l
  | .bit_6_atHL => bitAtHL 6
  | .bit_6_a => bitReg 6 .a
  | .bit_7_b => bitReg 7 .b
  | .bit_7_c => bitReg 7 .c
  | .bit_7_d => bitReg 7 .d
  | .bit_7_e => bitReg 7 .e
  | .bit_7_h => bitReg 7 .h
  | .bit_7_l => bitReg 7 .l
  | .bit_7_atHL => bitAtHL 7
  | .bit_7_a => bitReg 7 .a
  | .res_0_b => resReg 0 .b
  | .res_0_c => resReg 0 .c
  | .res_0_d => resReg 0 .d
  | .res_0_e => resReg 0 .e
  | .res_0_h => resReg 0 .h
  | .res_0_l => resReg 0 .l
  | .res_0_atHL => resAtHL 0
  | .res_0_a => resReg 0 .a
  | .res_1_b => resReg 1 .b
  | .res_1_c => resReg 1 .c
  | .res_1_d => resReg 1 .d
  | .res_1_e => resReg 1 .e
  | .res_1_h => resReg 1 .h
  | .res_1_l => resReg 1 .l
  | .res_1_atHL => resAtHL 1
  | .res_1_a => resReg 1 .a
  | .res_2_b => resReg 2 .b
  | .res_2_c => resReg 2 .c
  | .res_2_d => resReg 2 .d
  | .res_2_e => resReg 2 .e
  | .res_2_h => resReg 2 .h
  | .res_2_l => resReg 2 .l
  | .res_2_atHL => resAtHL 2
  | .res_2_a => resReg 2 .a
  | .res_3_b => resReg 3 .b
  | .res_3_c => resReg 3 .c
  | .res_3_d => resReg 3 .d
  | .res_3_e => resReg 3 .e
  | .res_3_h => resReg 3 .h
  | .res_3_l => resReg 3 .l
  | .res_3_atHL => resAtHL 3
  | .res_3_a => resReg 3 .a
  | .res_4_b => resReg 4 .b
  | .res_4_c => resReg 4 .c
  | .res_4_d => resReg 4 .d
  | .res_4_e => resReg 4 .e
  | .res_4_h => resReg 4 .h
  | .res_4_l => resReg 4 .l
  | .res_4_atHL => resAtHL 4
  | .res_4_a => resReg 4 .a
  | .res_5_b => resReg 5 .b
  | .res_5_c => resReg 5 .c
  | .res_5_d => resReg 5 .d
  | .res_5_e => resReg 5 .e
  | .res_5_h => resReg 5 .h
  | .res_5_l => resReg 5 .l
  | .res_5_atHL => resAtHL 5
  | .res_5_a => resReg 5 .a
  | .res_6_b => resReg 6 .b
  | .res_6_c => resReg 6 .c
  | .res_6_d => resReg 6 .d
  | .res_6_e => resReg 6 .e
  | .res_6_h => resReg 6 .h
  | .res_6_l => resReg 6 .l
  | .res_6_atHL => resAtHL 6
  | .res_6_a => resReg 6 .a
  | .res_7_b => resReg 7 .b
  | .res_7_c => resReg 7 .c
  | .res_7_d => resReg 7 .d
  | .res_7_e => resReg 7 .e
  | .res_7_h => resReg 7 .h
  | .res_7_l => resReg 7 .l
  | .res_7_atHL => resAtHL 7
  | .res_7_a => resReg 7 .a
  | .set_0_b => setReg 0 .b
  | .set_0_c => setReg 0 .c
  | .set_0_d => setReg 0 .d
  | .set_0_e => setReg 0 .e
  | .set_0_h => setReg 0 .h
  | .set_0_l => setReg 0 .l
  | .set_0_atHL => setAtHL 0
  | .set_0_a => setReg 0 .a
  | .set_1_b => setReg 1 .b
  | .set_1_c => setReg 1 .c
  | .set_1_d => setReg 1 .d
  | .set_1_e => setReg 1 .e
  | .set_1_h => setReg 1 .h
  | .set_1_l => setReg 1 .l
  | .set_1_atHL => setAtHL 1
  | .set_1_a => setReg 1 .a
  | .set_2_b => setReg 2 .b
  | .set_2_c => setReg 2 .c
  | .set_2_d => setReg 2 .d
  | .set_2_e => setReg 2 .e
  | .set_2_h => setReg 2 .h
  | .set_2_l => setReg 2 .l
  | .set_2_atHL => setAtHL 2
  | .set_2_a => setReg 2 .a
  | .set_3_b => setReg 3 .b
  | .set_3_c => setReg 3 .c
  | .set_3_d => setReg 3 .d
  | .set_3_e => setReg 3 .e
  | .set_3_h => setReg 3 .h
  | .set_3_l => setReg 3 .l
  | .set_3_atHL => setAtHL 3
  | .set_3_a => setReg 3 .a
  | .set_4_b => setReg 4 .b
  | .set_4_c => setReg 4 .c
  | .set_4_d => setReg 4 .d
  | .set_4_e => setReg 4 .e
  | .set_4_h => setReg 4 .h
  | .set_4_l => setReg 4 .l
  | .set_4_atHL => setAtHL 4
  | .set_4_a => setReg 4 .a
  | .set_5_b => setReg 5 .b
  | .set_5_c => setReg 5 .c
  | .set_5_d => setReg 5 .d
  | .set_5_e => setReg 5 .e
  | .set_5_h => setReg 5 .h
  | .set_5_l => setReg 5 .l
  | .set_5_atHL => setAtHL 5
  | .set_5_a => setReg 5 .a
  | .set_6_b => setReg 6 .b
  | .set_6_c => setReg 6 .c
  | .set_6_d => setReg 6 .d
  | .set_6_e => setReg 6 .e
  | .set_6_h => setReg 6 .h
  | .set_6_l => setReg 6 .l
  | .set_6_atHL => setAtHL 6
  | .set_6_a => setReg 6 .a
  | .set_7_b => setReg 7 .b
  | .set_7_c => setReg 7 .c
  | .set_7_d => setReg 7 .d
  | .set_7_e => setReg 7 .e
  | .set_7_h => setReg 7 .h
  | .set_7_l => setReg 7 .l
  | .set_7_atHL => setAtHL 7
  | .set_7_a => setReg 7 .a

end Sys2Proof
end

