-- ==== Sys2Proof/Laws/Exec.lean ====
section
/-! SUPPORT. What exec is on each family, and what an ordinary instruction can do to the state, said once: it answers
a next state built from bus reads, bus writes, flag writes, and new values of the registers, SP, PC and clock. -/

namespace Sys2Proof.Machine

/-! ### exec on a family is the shared meaning -/

theorem exec_ldRegReg (r : Reg8) (r' : Reg8) (s : State) :
    exec (.ldRegReg r r') s = loadRegReg r r' s := by
  cases r <;> cases r' <;> rfl

theorem exec_ldRegImm (r : Reg8) (n : Byte) (s : State) :
    exec (.ldRegImm r n) s = loadRegImm r n s := by
  cases r <;> rfl

theorem exec_ldRegAtHL (r : Reg8) (s : State) :
    exec (.ldRegAtHL r) s = loadRegAt r s.hl s := by
  cases r <;> rfl

theorem exec_ldAtHLReg (r : Reg8) (s : State) :
    exec (.ldAtHLReg r) s = storeRegAt s.hl r s := by
  cases r <;> rfl

theorem exec_ldPairImm (rr : Reg16) (nn : Word) (s : State) :
    exec (.ldPairImm rr nn) s = loadPairImm rr nn s := by
  cases rr <;> rfl

theorem exec_pushPair (rr : RegStk) (s : State) :
    exec (.pushPair rr) s = pushPair rr s := by
  cases rr <;> rfl

theorem exec_popPair (rr : RegStk) (s : State) :
    exec (.popPair rr) s = popPair rr s := by
  cases rr <;> rfl

theorem exec_addHLPair (rr : Reg16) (s : State) :
    exec (.addHLPair rr) s = addPairToHL rr s := by
  cases rr <;> rfl

theorem exec_incPair (rr : Reg16) (s : State) :
    exec (.incPair rr) s = incrementPair rr s := by
  cases rr <;> rfl

theorem exec_decPair (rr : Reg16) (s : State) :
    exec (.decPair rr) s = decrementPair rr s := by
  cases rr <;> rfl

theorem exec_aluReg (op : AluOp) (r : Reg8) (s : State) :
    exec (.aluReg op r) s = aluOnReg op r s := by
  cases op <;> cases r <;> rfl

theorem exec_aluAtHL (op : AluOp) (s : State) :
    exec (.aluAtHL op) s = aluOnAtHL op s := by
  cases op <;> rfl

theorem exec_aluImm (op : AluOp) (n : Byte) (s : State) :
    exec (.aluImm op n) s = aluOnImm op n s := by
  cases op <;> rfl

theorem exec_incReg (r : Reg8) (s : State) :
    exec (.incReg r) s = incrementReg r s := by
  cases r <;> rfl

theorem exec_decReg (r : Reg8) (s : State) :
    exec (.decReg r) s = decrementReg r s := by
  cases r <;> rfl

theorem exec_rotReg (op : RotOp) (r : Reg8) (s : State) :
    exec (.rotReg op r) s = rotateReg op r s := by
  cases op <;> cases r <;> rfl

theorem exec_rotAtHL (op : RotOp) (s : State) :
    exec (.rotAtHL op) s = rotateAtHL op s := by
  cases op <;> rfl

theorem exec_bitReg (k : Fin 8) (r : Reg8) (s : State) :
    exec (.bitReg k r) s = testBitReg k r s := by
  fin_cases k <;> cases r <;> rfl

theorem exec_bitAtHL (k : Fin 8) (s : State) :
    exec (.bitAtHL k) s = testBitAtHL k s := by
  fin_cases k <;> rfl

theorem exec_resReg (k : Fin 8) (r : Reg8) (s : State) :
    exec (.resReg k r) s = resetBitReg k r s := by
  fin_cases k <;> cases r <;> rfl

theorem exec_resAtHL (k : Fin 8) (s : State) :
    exec (.resAtHL k) s = resetBitAtHL k s := by
  fin_cases k <;> rfl

theorem exec_setReg (k : Fin 8) (r : Reg8) (s : State) :
    exec (.setReg k r) s = setBitReg k r s := by
  fin_cases k <;> cases r <;> rfl

theorem exec_setAtHL (k : Fin 8) (s : State) :
    exec (.setAtHL k) s = setBitAtHL k s := by
  fin_cases k <;> rfl

theorem exec_jpCond (cc : Cond) (nn : Word) (s : State) :
    exec (.jpCond cc nn) s = jumpIf cc nn s := by
  cases cc <;> rfl

theorem exec_jrCond (cc : Cond) (n : Byte) (s : State) :
    exec (.jrCond cc n) s = jumpRelativeIf cc n s := by
  cases cc <;> rfl

theorem exec_callCond (cc : Cond) (nn : Word) (s : State) :
    exec (.callCond cc nn) s = callIf cc nn s := by
  cases cc <;> rfl

theorem exec_retCond (cc : Cond) (s : State) :
    exec (.retCond cc) s = returnIf cc s := by
  cases cc <;> rfl

theorem exec_rst (k : Fin 8) (s : State) :
    exec (.rst k) s = restart k s := by
  fin_cases k <;> rfl

/-! ### What an ordinary instruction can do -/

/-- The instructions whose whole effect is built from bus accesses, flag writes and new register values; the
other six change IME, ei_pending, mode or the fault. -/
def Instr.isOrdinary : Instr → Bool
  | .halt | .stop _ | .di | .ei | .reti | .invalid _ => false
  | _ => true

/-- t can be built from s by the steps of an ordinary instruction. -/
inductive Ordinary (s : State) : State → Prop where
  | refl : Ordinary s s
  /-- New values of registers other than F, of SP, of PC, and a clock that has not gone back. -/
  | regs {t t' : State} (h : Ordinary s t)
      (same : t' = { t with a := t'.a, b := t'.b, c := t'.c, d := t'.d, e := t'.e, h := t'.h, l := t'.l
                            sp := t'.sp, pc := t'.pc, clock := t'.clock })
      (mono : t.clock ≤ t'.clock) : Ordinary s t'
  /-- A new F, with its low nibble 0. -/
  | flags {t t' : State} (h : Ordinary s t) (same : t' = { t with f := t'.f }) (low : t'.f &&& 0x0F = 0) :
      Ordinary s t'
  | read {t : State} (h : Ordinary s t) (x : Word) : Ordinary s (t.readEff x)
  | write {t : State} (h : Ordinary s t) (x : Word) (v : Byte) : Ordinary s (t.busWrite x v)

namespace Ordinary

variable {s t : State}

theorem tick (h : Ordinary s t) (n : Nat) : Ordinary s (t.tick n) :=
  h.regs rfl (Nat.le_add_right _ _)

theorem withPC (h : Ordinary s t) (v : Word) : Ordinary s { t with pc := v } := h.regs rfl (Nat.le_refl _)

theorem withSP (h : Ordinary s t) (v : Word) : Ordinary s { t with sp := v } := h.regs rfl (Nat.le_refl _)

theorem setR (h : Ordinary s t) (r : Reg8) (v : Byte) : Ordinary s (t.setR r v) := by
  cases r <;> exact h.regs rfl (Nat.le_refl _)

theorem setHL (h : Ordinary s t) (v : Word) : Ordinary s (t.setHL v) := h.regs rfl (Nat.le_refl _)

theorem setRR (h : Ordinary s t) (rr : Reg16) (v : Word) : Ordinary s (t.setRR rr v) := by
  cases rr <;> exact h.regs rfl (Nat.le_refl _)

theorem setFlags (h : Ordinary s t) (fl : Flags) : Ordinary s (t.setFlags fl) :=
  h.flags rfl (Flags.toByte_low fl)

theorem setStk (h : Ordinary s t) (rr : RegStk) (hi lo : Byte) : Ordinary s (t.setStk rr hi lo) := by
  cases rr
  case af =>
    have h1 : Ordinary s { t with a := hi } := h.regs rfl (Nat.le_refl _)
    refine h1.flags rfl ?_
    show (lo &&& 0xF0) &&& 0x0F = 0
    rw [BitVec.and_assoc]
    exact BitVec.and_zero
  all_goals exact h.regs rfl (Nat.le_refl _)

theorem write16 (h : Ordinary s t) (x : Word) (lo hi : Byte) : Ordinary s (t.busWrite16 x lo hi) :=
  (h.write x lo).write (x + 1) hi

theorem pushByte (h : Ordinary s t) (v : Byte) : Ordinary s (t.pushByte v) :=
  (h.withSP (t.sp - 1)).write _ v

theorem push16 (h : Ordinary s t) (hi lo : Byte) : Ordinary s (t.push16 hi lo) := (h.pushByte hi).pushByte lo

theorem popped (h : Ordinary s t) : Ordinary s t.popped := (h.read t.sp).withSP _

theorem popped16 (h : Ordinary s t) : Ordinary s t.popped16 := h.popped.popped

theorem popPC (h : Ordinary s t) : Ordinary s t.popPC := h.popped16.withPC _

theorem applyAlu (h : Ordinary s t) (op : AluOp) (v : Byte) : Ordinary s (t.applyAlu op v) :=
  (h.setR .a _).setFlags _

theorem modifyAtHL (h : Ordinary s t) (v : Byte) (fl : Flags) (n : Nat) : Ordinary s (t.modifyAtHL v fl n) :=
  (((h.read t.hl).write t.hl v).setFlags fl).tick n

theorem callTo (h : Ordinary s t) (target : Word) : Ordinary s (t.callTo target) :=
  (h.push16 (hiByte t.pc) (loByte t.pc)).withPC target

theorem jumpRelative (h : Ordinary s t) (e : Byte) : Ordinary s (t.jumpRelative e) := h.withPC _

end Ordinary

/-- Every ordinary instruction answers a next state, in every state, built by the steps above. -/
theorem exec_ordinary (i : Instr) : Instr.isOrdinary i = true → ∀ s : State, ∃ t, exec i s = .next t ∧ Ordinary s t := by
  cases i using Instr.byFamily
  case ldRegReg r r' =>
    intro _ s
    rw [exec_ldRegReg]
    exact ⟨_, rfl, (Ordinary.refl.setR _ _).tick _⟩
  case ldRegImm r n =>
    intro _ s
    rw [exec_ldRegImm]
    exact ⟨_, rfl, (Ordinary.refl.setR _ _).tick _⟩
  case ldRegAtHL r =>
    intro _ s
    rw [exec_ldRegAtHL]
    exact ⟨_, rfl, ((Ordinary.refl.read _).setR _ _).tick _⟩
  case ldAtHLReg r =>
    intro _ s
    rw [exec_ldAtHLReg]
    exact ⟨_, rfl, (Ordinary.refl.write _ _).tick _⟩
  case ldPairImm rr nn =>
    intro _ s
    rw [exec_ldPairImm]
    exact ⟨_, rfl, (Ordinary.refl.setRR _ _).tick _⟩
  case pushPair rr =>
    intro _ s
    rw [exec_pushPair]
    exact ⟨_, rfl, (Ordinary.refl.push16 _ _).tick _⟩
  case popPair rr =>
    intro _ s
    rw [exec_popPair]
    exact ⟨_, rfl, (Ordinary.refl.popped16.setStk _ _ _).tick _⟩
  case addHLPair rr =>
    intro _ s
    rw [exec_addHLPair]
    exact ⟨_, rfl, ((Ordinary.refl.setHL _).setFlags _).tick _⟩
  case incPair rr =>
    intro _ s
    rw [exec_incPair]
    exact ⟨_, rfl, (Ordinary.refl.setRR _ _).tick _⟩
  case decPair rr =>
    intro _ s
    rw [exec_decPair]
    exact ⟨_, rfl, (Ordinary.refl.setRR _ _).tick _⟩
  case aluReg op r =>
    intro _ s
    rw [exec_aluReg]
    exact ⟨_, rfl, (Ordinary.refl.applyAlu _ _).tick _⟩
  case aluAtHL op =>
    intro _ s
    rw [exec_aluAtHL]
    exact ⟨_, rfl, ((Ordinary.refl.read _).applyAlu _ _).tick _⟩
  case aluImm op n =>
    intro _ s
    rw [exec_aluImm]
    exact ⟨_, rfl, (Ordinary.refl.applyAlu _ _).tick _⟩
  case incReg r =>
    intro _ s
    rw [exec_incReg]
    exact ⟨_, rfl, ((Ordinary.refl.setR _ _).setFlags _).tick _⟩
  case decReg r =>
    intro _ s
    rw [exec_decReg]
    exact ⟨_, rfl, ((Ordinary.refl.setR _ _).setFlags _).tick _⟩
  case rotReg op r =>
    intro _ s
    rw [exec_rotReg]
    exact ⟨_, rfl, ((Ordinary.refl.setR _ _).setFlags _).tick _⟩
  case rotAtHL op =>
    intro _ s
    rw [exec_rotAtHL]
    exact ⟨_, rfl, Ordinary.refl.modifyAtHL _ _ _⟩
  case bitReg k r =>
    intro _ s
    rw [exec_bitReg]
    exact ⟨_, rfl, (Ordinary.refl.setFlags _).tick _⟩
  case bitAtHL k =>
    intro _ s
    rw [exec_bitAtHL]
    exact ⟨_, rfl, ((Ordinary.refl.read _).setFlags _).tick _⟩
  case resReg k r =>
    intro _ s
    rw [exec_resReg]
    exact ⟨_, rfl, (Ordinary.refl.setR _ _).tick _⟩
  case resAtHL k =>
    intro _ s
    rw [exec_resAtHL]
    exact ⟨_, rfl, ((Ordinary.refl.read _).write _ _).tick _⟩
  case setReg k r =>
    intro _ s
    rw [exec_setReg]
    exact ⟨_, rfl, (Ordinary.refl.setR _ _).tick _⟩
  case setAtHL k =>
    intro _ s
    rw [exec_setAtHL]
    exact ⟨_, rfl, ((Ordinary.refl.read _).write _ _).tick _⟩
  case jpCond cc nn =>
    intro _ s
    rw [exec_jpCond, jumpIf]
    split
    · exact ⟨_, rfl, (Ordinary.refl.withPC _).tick _⟩
    · exact ⟨_, rfl, Ordinary.refl.tick _⟩
  case jrCond cc n =>
    intro _ s
    rw [exec_jrCond, jumpRelativeIf]
    split
    · exact ⟨_, rfl, (Ordinary.refl.jumpRelative _).tick _⟩
    · exact ⟨_, rfl, Ordinary.refl.tick _⟩
  case callCond cc nn =>
    intro _ s
    rw [exec_callCond, callIf]
    split
    · exact ⟨_, rfl, (Ordinary.refl.callTo _).tick _⟩
    · exact ⟨_, rfl, Ordinary.refl.tick _⟩
  case retCond cc =>
    intro _ s
    rw [exec_retCond, returnIf]
    split
    · exact ⟨_, rfl, Ordinary.refl.popPC.tick _⟩
    · exact ⟨_, rfl, Ordinary.refl.tick _⟩
  case rst k =>
    intro _ s
    rw [exec_rst]
    exact ⟨_, rfl, (Ordinary.refl.callTo _).tick _⟩
  case invalid _ => exact fun h => absurd h (by simp [Instr.isOrdinary])
  case nop => exact fun _ s => ⟨_, rfl, Ordinary.refl.tick _⟩
  case ld_atBC_a => exact fun _ s => ⟨_, rfl, (Ordinary.refl.write _ _).tick _⟩
  case rlca => exact fun _ s => ⟨_, rfl, ((Ordinary.refl.setR _ _).setFlags _).tick _⟩
  case ld_atNN_sp _ => exact fun _ s => ⟨_, rfl, (Ordinary.refl.write16 _ _ _).tick _⟩
  case ld_a_atBC => exact fun _ s => ⟨_, rfl, ((Ordinary.refl.read _).setR _ _).tick _⟩
  case rrca => exact fun _ s => ⟨_, rfl, ((Ordinary.refl.setR _ _).setFlags _).tick _⟩
  case stop _ => exact fun h => absurd h (by simp [Instr.isOrdinary])
  case ld_atDE_a => exact fun _ s => ⟨_, rfl, (Ordinary.refl.write _ _).tick _⟩
  case rla => exact fun _ s => ⟨_, rfl, ((Ordinary.refl.setR _ _).setFlags _).tick _⟩
  case jr_e _ => exact fun _ s => ⟨_, rfl, (Ordinary.refl.jumpRelative _).tick _⟩
  case ld_a_atDE => exact fun _ s => ⟨_, rfl, ((Ordinary.refl.read _).setR _ _).tick _⟩
  case rra => exact fun _ s => ⟨_, rfl, ((Ordinary.refl.setR _ _).setFlags _).tick _⟩
  case ld_atHLinc_a => exact fun _ s => ⟨_, rfl, ((Ordinary.refl.write _ _).setHL _).tick _⟩
  case daa => exact fun _ s => ⟨_, rfl, ((Ordinary.refl.setR _ _).setFlags _).tick _⟩
  case ld_a_atHLinc => exact fun _ s => ⟨_, rfl, (((Ordinary.refl.read _).setR _ _).setHL _).tick _⟩
  case cpl => exact fun _ s => ⟨_, rfl, ((Ordinary.refl.setR _ _).setFlags _).tick _⟩
  case ld_atHLdec_a => exact fun _ s => ⟨_, rfl, ((Ordinary.refl.write _ _).setHL _).tick _⟩
  case inc_atHL => exact fun _ s => ⟨_, rfl, Ordinary.refl.modifyAtHL _ _ _⟩
  case dec_atHL => exact fun _ s => ⟨_, rfl, Ordinary.refl.modifyAtHL _ _ _⟩
  case ld_atHL_n _ => exact fun _ s => ⟨_, rfl, (Ordinary.refl.write _ _).tick _⟩
  case scf => exact fun _ s => ⟨_, rfl, (Ordinary.refl.setFlags _).tick _⟩
  case ld_a_atHLdec => exact fun _ s => ⟨_, rfl, (((Ordinary.refl.read _).setR _ _).setHL _).tick _⟩
  case ccf => exact fun _ s => ⟨_, rfl, (Ordinary.refl.setFlags _).tick _⟩
  case halt => exact fun h => absurd h (by simp [Instr.isOrdinary])
  case jp_nn _ => exact fun _ s => ⟨_, rfl, (Ordinary.refl.withPC _).tick _⟩
  case ret => exact fun _ s => ⟨_, rfl, Ordinary.refl.popPC.tick _⟩
  case call_nn _ => exact fun _ s => ⟨_, rfl, (Ordinary.refl.callTo _).tick _⟩
  case reti => exact fun h => absurd h (by simp [Instr.isOrdinary])
  case ldh_atN_a _ => exact fun _ s => ⟨_, rfl, (Ordinary.refl.write _ _).tick _⟩
  case ldh_atC_a => exact fun _ s => ⟨_, rfl, (Ordinary.refl.write _ _).tick _⟩
  case add_sp_e _ => exact fun _ s => ⟨_, rfl, ((Ordinary.refl.withSP _).setFlags _).tick _⟩
  case jp_hl => exact fun _ s => ⟨_, rfl, (Ordinary.refl.withPC _).tick _⟩
  case ld_atNN_a _ => exact fun _ s => ⟨_, rfl, (Ordinary.refl.write _ _).tick _⟩
  case ldh_a_atN _ => exact fun _ s => ⟨_, rfl, ((Ordinary.refl.read _).setR _ _).tick _⟩
  case ldh_a_atC => exact fun _ s => ⟨_, rfl, ((Ordinary.refl.read _).setR _ _).tick _⟩
  case di => exact fun h => absurd h (by simp [Instr.isOrdinary])
  case ld_hl_spPlusE _ => exact fun _ s => ⟨_, rfl, ((Ordinary.refl.setHL _).setFlags _).tick _⟩
  case ld_sp_hl => exact fun _ s => ⟨_, rfl, (Ordinary.refl.withSP _).tick _⟩
  case ld_a_atNN _ => exact fun _ s => ⟨_, rfl, ((Ordinary.refl.read _).setR _ _).tick _⟩
  case ei => exact fun h => absurd h (by simp [Instr.isOrdinary])

end Sys2Proof.Machine
end

