-- ==== Sys2Proof/Laws/Flags.lean ====
section
/-! SUPPORT. Each flag computation as arithmetic on natural numbers, so that no later proof unfolds one. -/

namespace Sys2Proof.Machine

/-! ### Masks are remainders -/

theorem toNat_and_0F (v : Byte) : (v &&& 0x0F).toNat = v.toNat % 16 := by
  rw [BitVec.toNat_and]; exact Nat.and_two_pow_sub_one_eq_mod v.toNat 4

theorem toNat_and_000F (v : Word) : (v &&& 0x0F).toNat = v.toNat % 16 := by
  rw [BitVec.toNat_and]; exact Nat.and_two_pow_sub_one_eq_mod v.toNat 4

theorem toNat_and_00FF (v : Word) : (v &&& 0xFF).toNat = v.toNat % 256 := by
  rw [BitVec.toNat_and]; exact Nat.and_two_pow_sub_one_eq_mod v.toNat 8

theorem toNat_and_0FFF (v : Word) : (v &&& 0x0FFF).toNat = v.toNat % 4096 := by
  rw [BitVec.toNat_and]; exact Nat.and_two_pow_sub_one_eq_mod v.toNat 12

theorem ofNat8_eq_zero (r : Nat) : BitVec.ofNat 8 r = 0 ↔ r % 256 = 0 := by
  simp [← BitVec.toNat_inj]

theorem State.flags_eq (s : State) :
    s.flags = { z := s.f.getLsbD 7, n := s.f.getLsbD 6, h := s.f.getLsbD 5, c := s.f.getLsbD 4 } := rfl

/-! ### 8-bit arithmetic (R250, R275, R277, R300) -/

theorem add8_eq (a b : Byte) (c : Bool) :
    add8 a b c = (BitVec.ofNat 8 (a.toNat + b.toNat + c.toNat),
      { z := decide ((a.toNat + b.toNat + c.toNat) % 256 = 0), n := false
        h := decide (15 < a.toNat % 16 + b.toNat % 16 + c.toNat)
        c := decide (255 < a.toNat + b.toNat + c.toNat) }) := by
  simp only [add8, toNat_and_0F, ofNat8_eq_zero, gt_iff_lt]

theorem sub8_eq (a b : Byte) (c : Bool) :
    sub8 a b c = (BitVec.ofNat 8 (a.toNat + 512 - b.toNat - c.toNat),
      { z := decide ((a.toNat + 512 - b.toNat - c.toNat) % 256 = 0), n := true
        h := decide (a.toNat % 16 < b.toNat % 16 + c.toNat)
        c := decide (a.toNat < b.toNat + c.toNat) }) := by
  have hb := b.isLt
  have hc : c.toNat ≤ 1 := by cases c <;> decide
  have key : BitVec.ofInt 8 ((a.toNat : Int) - b.toNat - c.toNat)
      = BitVec.ofNat 8 (a.toNat + 512 - b.toNat - c.toNat) := by
    apply BitVec.eq_of_toNat_eq
    simp only [BitVec.toNat_ofInt, BitVec.toNat_ofNat]
    omega
  simp only [sub8, toNat_and_0F, key, ofNat8_eq_zero]
  congr 3 <;> simp <;> omega

theorem inc8_eq (v : Byte) (fl : Flags) :
    inc8 v fl = (BitVec.ofNat 8 (v.toNat + 1),
      { z := decide (v.toNat = 255), n := false, h := decide (v.toNat % 16 = 15), c := fl.c }) := by
  obtain ⟨z, n, h, c⟩ := fl
  simp only [inc8]
  decide +revert

theorem dec8_eq (v : Byte) (fl : Flags) :
    dec8 v fl = (BitVec.ofNat 8 (v.toNat + 255),
      { z := decide (v.toNat = 1), n := true, h := decide (v.toNat % 16 = 0), c := fl.c }) := by
  obtain ⟨z, n, h, c⟩ := fl
  simp only [dec8]
  decide +revert

theorem daa8_add (a : Byte) (z h c : Bool) :
    daa8 a { z := z, n := false, h := h, c := c } =
      (let high := c || decide (0x99 < a.toNat)
       let low := h || decide (0x09 < a.toNat % 16)
       let r := a.toNat + (if high then 0x60 else 0) + (if low then 0x06 else 0)
       (BitVec.ofNat 8 r, { z := decide (r % 256 = 0), n := false, h := false, c := high })) := by
  have key : ∀ x y : Bool, BitVec.ofInt 8 ((a.toNat : Int) + (if x then 0x60 else 0) + (if y then 0x06 else 0))
      = BitVec.ofNat 8 (a.toNat + (if x then 0x60 else 0) + (if y then 0x06 else 0)) := by
    intro x y
    apply BitVec.eq_of_toNat_eq
    simp only [BitVec.toNat_ofInt, BitVec.toNat_ofNat]
    cases x <;> cases y <;> simp <;> omega
  simp only [daa8, toNat_and_0F, key, Bool.false_eq_true, if_false, gt_iff_lt, ofNat8_eq_zero]

theorem daa8_sub (a : Byte) (z h c : Bool) :
    daa8 a { z := z, n := true, h := h, c := c } =
      (let r := a.toNat + 512 - (if c then 0x60 else 0) - (if h then 0x06 else 0)
       (BitVec.ofNat 8 r, { z := decide (r % 256 = 0), n := true, h := false, c := c })) := by
  have key : BitVec.ofInt 8 ((a.toNat : Int) - (if c then 0x60 else 0) - (if h then 0x06 else 0))
      = BitVec.ofNat 8 (a.toNat + 512 - (if c then 0x60 else 0) - (if h then 0x06 else 0)) := by
    apply BitVec.eq_of_toNat_eq
    simp only [BitVec.toNat_ofInt, BitVec.toNat_ofNat]
    cases c <;> cases h <;> simp <;> omega
  simp only [daa8, if_true, key, ofNat8_eq_zero]

/-! ### 16-bit arithmetic (R239, R290, R291) -/

theorem addHL16_eq (a b : Word) (fl : Flags) :
    addHL16 a b fl = (BitVec.ofNat 16 (a.toNat + b.toNat),
      { z := fl.z, n := false
        h := decide (4095 < a.toNat % 4096 + b.toNat % 4096), c := decide (65535 < a.toNat + b.toNat) }) := by
  simp only [addHL16, toNat_and_0FFF, gt_iff_lt]

theorem addSpE_eq (sp : Word) (e : Byte) :
    addSpE sp e = (sp + e.signExtend 16,
      { z := false, n := false
        h := decide (15 < sp.toNat % 16 + e.toNat % 16), c := decide (255 < sp.toNat % 256 + e.toNat) }) := by
  simp only [addSpE, toNat_and_000F, toNat_and_00FF, toNat_and_0F, gt_iff_lt]

/-! ### Rotates, shifts and single bits (R320 to R355) -/

/-- The rotates and shifts as arithmetic: the value before narrowing, and the bit that goes to C. -/
theorem rot8_eq (op : RotOp) (v : Byte) (c : Bool) :
    rot8 op v c =
      (let x := v.toNat
       match op with
       | .rlc => (BitVec.ofNat 8 (2 * x + x / 128), decide (128 ≤ x))
       | .rrc => (BitVec.ofNat 8 (x / 2 + 128 * (x % 2)), decide (x % 2 = 1))
       | .rl => (BitVec.ofNat 8 (2 * x + c.toNat), decide (128 ≤ x))
       | .rr => (BitVec.ofNat 8 (x / 2 + 128 * c.toNat), decide (x % 2 = 1))
       | .sla => (BitVec.ofNat 8 (2 * x), decide (128 ≤ x))
       | .sra => (BitVec.ofNat 8 (x / 2 + (if 128 ≤ x then 128 else 0)), decide (x % 2 = 1))
       | .swap => (BitVec.ofNat 8 (16 * (x % 16) + x / 16), false)
       | .srl => (BitVec.ofNat 8 (x / 2), decide (x % 2 = 1))) := by
  revert v
  cases op <;> cases c <;> decide

theorem getLsbD_resBit (b : Fin 8) (v : Byte) (k : Fin 8) :
    (resBit b v).getLsbD k = if k = b then false else v.getLsbD k := by
  have h : (~~~(1#8 <<< b.val)).getLsbD k = decide (k ≠ b) := by revert b k; decide
  rw [resBit, BitVec.getLsbD_and, h]
  by_cases hk : k = b <;> simp [hk]

theorem getLsbD_setBit (b : Fin 8) (v : Byte) (k : Fin 8) :
    (setBit b v).getLsbD k = if k = b then true else v.getLsbD k := by
  have h : (1#8 <<< b.val).getLsbD k = decide (k = b) := by revert b k; decide
  rw [setBit, BitVec.getLsbD_or, h]
  by_cases hk : k = b <;> simp [hk]

end Sys2Proof.Machine
end

