-- ==== Sys2Proof/Laws/Load.lean ====
section
/-! SUPPORT. What a load and a host reset set, said once: the fields of State.initial, and that it is well-formed. -/

namespace Sys2Proof.Machine

@[simp] theorem State.initial_cfg (cfg : Config) (cart : Cart) (mbc : Mbc) (cram : Memory) (dr : Draws) :
    (State.initial cfg cart mbc cram dr).cfg = cfg := by
  unfold State.initial initialRegs
  split <;> rfl

@[simp] theorem State.initial_cart (cfg : Config) (cart : Cart) (mbc : Mbc) (cram : Memory) (dr : Draws) :
    (State.initial cfg cart mbc cram dr).cart = cart := by
  unfold State.initial initialRegs
  split <;> rfl

@[simp] theorem State.initial_mbc (cfg : Config) (cart : Cart) (mbc : Mbc) (cram : Memory) (dr : Draws) :
    (State.initial cfg cart mbc cram dr).mbc = mbc := by
  unfold State.initial initialRegs
  split <;> rfl

@[simp] theorem State.initial_cram (cfg : Config) (cart : Cart) (mbc : Mbc) (cram : Memory) (dr : Draws) :
    (State.initial cfg cart mbc cram dr).cram = cram := by
  unfold State.initial initialRegs
  split <;> rfl

@[simp] theorem State.initial_mode (cfg : Config) (cart : Cart) (mbc : Mbc) (cram : Memory) (dr : Draws) :
    (State.initial cfg cart mbc cram dr).mode = .running := by
  unfold State.initial initialRegs
  split <;> rfl

@[simp] theorem State.initial_fault (cfg : Config) (cart : Cart) (mbc : Mbc) (cram : Memory) (dr : Draws) :
    (State.initial cfg cart mbc cram dr).fault = none := by
  unfold State.initial initialRegs
  split <;> rfl

theorem mbcOf_wf {ty : Byte} {m : Mbc} (h : mbcOf ty = some m) : m.wf = true := by
  unfold mbcOf at h
  (repeat' split at h) <;> cases h <;> rfl

/-- Whatever is drawn, the state a load makes is well-formed. -/
theorem State.initial_inv {cfg : Config} {cart : Cart} {mbc : Mbc} {cram : Memory} (dr : Draws)
    (hm : mbc.wf = true) (hc : Memory.wf cart.ramSize cram = true) : (State.initial cfg cart mbc cram dr).Inv := by
  unfold State.initial initialRegs
  split
  · exact State.Inv.mk (by show (0xB0 : Byte) &&& 0x0F = 0; decide) (Memory.wf_ofCells _ _) (Memory.wf_ofCells _ _) hc
      (Memory.wf_nil _) hm
  · refine State.Inv.mk ?_ (Memory.wf_ofCells _ _) (Memory.wf_ofCells _ _) hc (Memory.wf_nil _) hm
    show (dr.f &&& 0xF0) &&& 0x0F = 0
    rw [BitVec.and_assoc]
    exact BitVec.and_zero

end Sys2Proof.Machine
end

