-- ==== Sys2Proof/Laws/Ops.lean ====
section
/-! SUPPORT. One equation for each shared operation of Machine/Ops.lean, with its bus transactions and the new values in
the open, and that an ordinary instruction, a fetch and a load keep the well-formed states. -/

namespace Sys2Proof.Machine

theorem sub_one_sub_one (v : Word) : v - 1 - 1 = v - 2 := by rw [BitVec.sub_sub]; rfl

theorem add_one_add_one (v : Word) : v + 1 + 1 = v + 2 := by rw [BitVec.add_assoc]; rfl

/-! ### Stack (R230, R231) -/

/-- Two bus writes below SP, the high byte at the higher address; SP less 2. -/
theorem State.push16_eq (hi lo : Byte) (s : State) :
    s.push16 hi lo =
      ({ ({ s with sp := s.sp - 1 } : State).busWrite (s.sp - 1) hi with sp := s.sp - 2 } : State).busWrite
        (s.sp - 2) lo := by
  simp only [State.push16, State.pushByte, State.busWrite_sp, sub_one_sub_one]

/-- Two bus reads from SP up; SP plus 2. -/
theorem State.popped16_eq (s : State) :
    s.popped16 =
      { ({ s.readEff s.sp with sp := s.sp + 1 } : State).readEff (s.sp + 1) with sp := s.sp + 2 } := by
  simp only [State.popped16, State.popped, State.readEff_sp, add_one_add_one]

theorem State.popHi_eq (s : State) :
    s.popHi = ({ s.readEff s.sp with sp := s.sp + 1 } : State).readVal (s.sp + 1) := by
  simp only [State.popHi, State.popped, State.readEff_sp]

/-! ### ALU operations (R250) -/

@[simp] theorem State.applyAlu_clock (op : AluOp) (v : Byte) (s : State) : (s.applyAlu op v).clock = s.clock := by
  simp [State.applyAlu]

@[simp] theorem State.applyAlu_cfg (op : AluOp) (v : Byte) (s : State) : (s.applyAlu op v).cfg = s.cfg := by
  simp [State.applyAlu]

/-- Every form of every ALU operation: read the source, apply the operation, add the form's cost. -/
theorem exec_aluSrc (op : AluOp) (src : AluSrc) (s : State) :
    exec (src.instr op) s = .next (((src.read s).applyAlu op (src.value s)).tick src.cost) := by
  cases src with
  | reg r => simp only [AluSrc.instr, exec_aluReg]; rfl
  | atHL => simp only [AluSrc.instr, exec_aluAtHL]; rfl
  | imm n => simp only [AluSrc.instr, exec_aluImm]; rfl

@[simp] theorem AluSrc.read_a (src : AluSrc) (s : State) : (src.read s).a = s.a := by
  cases src <;> simp [AluSrc.read]

@[simp] theorem AluSrc.read_flags (src : AluSrc) (s : State) : (src.read s).flags = s.flags := by
  cases src <;> simp [AluSrc.read]

/-! ### Conditions (R166) -/

theorem State.cond_eq (s : State) (cc : Cond) :
    s.cond cc =
      match cc with
      | .nz => !s.f.getLsbD 7
      | .z => s.f.getLsbD 7
      | .nc => !s.f.getLsbD 4
      | .c => s.f.getLsbD 4 := by
  cases cc <;> rfl

/-- A meaning that answers one of two next states answers the next state chosen. -/
theorem next_ite {c : Bool} (t u : State) :
    (if c = true then (Host.Outcome.next t : Host.Outcome State Fault Refusal) else .next u) =
      .next (if c then t else u) := by
  cases c <;> rfl

/-! ### Well-formed states -/

theorem Ordinary.inv {s t : State} (h : Ordinary s t) (hs : s.Inv) : t.Inv := by
  induction h with
  | refl => exact hs
  | regs _ same _ ih => rw [same]; exact { ih with }
  | flags _ same low ih => rw [same]; exact { ih with flagsLow := low }
  | read _ x ih => exact ih.readEff x
  | write _ x v ih => exact ih.busWrite x v

theorem State.Inv.fetched {s : State} (h : s.Inv) : s.fetched.Inv := { h.readEff s.pc with }

theorem State.Inv.fetchedOpcode {s : State} (h : s.Inv) : s.fetchedOpcode.Inv := by
  unfold State.fetchedOpcode
  split
  · exact { h.readEff s.pc with }
  · exact h.fetched

theorem State.Inv.wake {s : State} (h : s.Inv) : s.wake.Inv := by
  unfold State.wake
  split
  · exact { h with }
  · exact h

/-- A rolled-back step leaves a state as well-formed as the one before it. -/
theorem State.Inv.rolledBack {s : State} (h : s.Inv) (t : State) : (t.rolledBack s).Inv := { h with }

end Sys2Proof.Machine
end

