-- ==== Sys2Proof/Laws/PerInstr.lean ====
section
/-! SUPPORT. A law made instruction by instruction: the encoder's bytes are as many as the first of them says, and the opcode maps
take them back to the instruction. -/

namespace Sys2Proof.Laws

/-- The encoding of a well-formed instruction has the length its first byte gives (R160), and the maps of R171
and R172 read it as the instruction. -/
def Encoding.Statement (i : Instr) : Prop :=
  i.wellFormed = true →
    (encode i).length = (opLength ((encode i).getD 0 0)).bytes
      ∧ decodeBytes ((encode i).getD 0 0) ((encode i).getD 1 0) ((encode i).getD 2 0) = i

theorem Encoding.of_twoBytes {i : Instr} {op b1 : Byte} (he : encode i = [op, b1]) (hl : opLength op = .two)
    (hd : decodeBytes op b1 0 = i) : Encoding.Statement i := by
  intro _
  rw [he]
  simp only [List.getD_cons_zero, List.getD_cons_succ, List.getD_nil, hl, hd]
  exact ⟨rfl, trivial⟩

theorem Encoding.of_threeBytes {i : Instr} {op b1 b2 : Byte} (he : encode i = [op, b1, b2])
    (hl : opLength op = .three) (hd : decodeBytes op b1 b2 = i) : Encoding.Statement i := by
  intro _
  rw [he]
  simp only [List.getD_cons_zero, List.getD_cons_succ, hl, hd]
  exact ⟨rfl, trivial⟩

theorem Encoding.invalid (op : Byte) : Encoding.Statement (.invalid op) := by
  unfold Encoding.Statement
  revert op
  decide

theorem Encoding.nop : Encoding.Statement .nop := fun _ => ⟨rfl, rfl⟩

theorem Encoding.ld_bc_nn (nn : Word) : Encoding.Statement (.ld_bc_nn nn) :=
  Encoding.of_threeBytes rfl rfl (congrArg Instr.ld_bc_nn (ofBytes_hiByte_loByte nn))

theorem Encoding.ld_atBC_a : Encoding.Statement .ld_atBC_a := fun _ => ⟨rfl, rfl⟩

theorem Encoding.inc_bc : Encoding.Statement .inc_bc := fun _ => ⟨rfl, rfl⟩

theorem Encoding.inc_b : Encoding.Statement .inc_b := fun _ => ⟨rfl, rfl⟩

theorem Encoding.dec_b : Encoding.Statement .dec_b := fun _ => ⟨rfl, rfl⟩

theorem Encoding.ld_b_n (n : Byte) : Encoding.Statement (.ld_b_n n) :=
  Encoding.of_twoBytes rfl rfl rfl

theorem Encoding.rlca : Encoding.Statement .rlca := fun _ => ⟨rfl, rfl⟩

theorem Encoding.ld_atNN_sp (nn : Word) : Encoding.Statement (.ld_atNN_sp nn) :=
  Encoding.of_threeBytes rfl rfl (congrArg Instr.ld_atNN_sp (ofBytes_hiByte_loByte nn))

theorem Encoding.add_hl_bc : Encoding.Statement .add_hl_bc := fun _ => ⟨rfl, rfl⟩

theorem Encoding.ld_a_atBC : Encoding.Statement .ld_a_atBC := fun _ => ⟨rfl, rfl⟩

theorem Encoding.dec_bc : Encoding.Statement .dec_bc := fun _ => ⟨rfl, rfl⟩

theorem Encoding.inc_c : Encoding.Statement .inc_c := fun _ => ⟨rfl, rfl⟩

theorem Encoding.dec_c : Encoding.Statement .dec_c := fun _ => ⟨rfl, rfl⟩

theorem Encoding.ld_c_n (n : Byte) : Encoding.Statement (.ld_c_n n) :=
  Encoding.of_twoBytes rfl rfl rfl

theorem Encoding.rrca : Encoding.Statement .rrca := fun _ => ⟨rfl, rfl⟩

theorem Encoding.stop (n : Byte) : Encoding.Statement (.stop n) :=
  Encoding.of_twoBytes rfl rfl rfl

theorem Encoding.ld_de_nn (nn : Word) : Encoding.Statement (.ld_de_nn nn) :=
  Encoding.of_threeBytes rfl rfl (congrArg Instr.ld_de_nn (ofBytes_hiByte_loByte nn))

theorem Encoding.ld_atDE_a : Encoding.Statement .ld_atDE_a := fun _ => ⟨rfl, rfl⟩

theorem Encoding.inc_de : Encoding.Statement .inc_de := fun _ => ⟨rfl, rfl⟩

theorem Encoding.inc_d : Encoding.Statement .inc_d := fun _ => ⟨rfl, rfl⟩

theorem Encoding.dec_d : Encoding.Statement .dec_d := fun _ => ⟨rfl, rfl⟩

theorem Encoding.ld_d_n (n : Byte) : Encoding.Statement (.ld_d_n n) :=
  Encoding.of_twoBytes rfl rfl rfl

theorem Encoding.rla : Encoding.Statement .rla := fun _ => ⟨rfl, rfl⟩

theorem Encoding.jr_e (e : Byte) : Encoding.Statement (.jr_e e) :=
  Encoding.of_twoBytes rfl rfl rfl

theorem Encoding.add_hl_de : Encoding.Statement .add_hl_de := fun _ => ⟨rfl, rfl⟩

theorem Encoding.ld_a_atDE : Encoding.Statement .ld_a_atDE := fun _ => ⟨rfl, rfl⟩

theorem Encoding.dec_de : Encoding.Statement .dec_de := fun _ => ⟨rfl, rfl⟩

theorem Encoding.inc_e : Encoding.Statement .inc_e := fun _ => ⟨rfl, rfl⟩

theorem Encoding.dec_e : Encoding.Statement .dec_e := fun _ => ⟨rfl, rfl⟩

theorem Encoding.ld_e_n (n : Byte) : Encoding.Statement (.ld_e_n n) :=
  Encoding.of_twoBytes rfl rfl rfl

theorem Encoding.rra : Encoding.Statement .rra := fun _ => ⟨rfl, rfl⟩

theorem Encoding.jr_nz_e (e : Byte) : Encoding.Statement (.jr_nz_e e) :=
  Encoding.of_twoBytes rfl rfl rfl

theorem Encoding.ld_hl_nn (nn : Word) : Encoding.Statement (.ld_hl_nn nn) :=
  Encoding.of_threeBytes rfl rfl (congrArg Instr.ld_hl_nn (ofBytes_hiByte_loByte nn))

theorem Encoding.ld_atHLinc_a : Encoding.Statement .ld_atHLinc_a := fun _ => ⟨rfl, rfl⟩

theorem Encoding.inc_hl : Encoding.Statement .inc_hl := fun _ => ⟨rfl, rfl⟩

theorem Encoding.inc_h : Encoding.Statement .inc_h := fun _ => ⟨rfl, rfl⟩

theorem Encoding.dec_h : Encoding.Statement .dec_h := fun _ => ⟨rfl, rfl⟩

theorem Encoding.ld_h_n (n : Byte) : Encoding.Statement (.ld_h_n n) :=
  Encoding.of_twoBytes rfl rfl rfl

theorem Encoding.daa : Encoding.Statement .daa := fun _ => ⟨rfl, rfl⟩

theorem Encoding.jr_z_e (e : Byte) : Encoding.Statement (.jr_z_e e) :=
  Encoding.of_twoBytes rfl rfl rfl

theorem Encoding.add_hl_hl : Encoding.Statement .add_hl_hl := fun _ => ⟨rfl, rfl⟩

theorem Encoding.ld_a_atHLinc : Encoding.Statement .ld_a_atHLinc := fun _ => ⟨rfl, rfl⟩

theorem Encoding.dec_hl : Encoding.Statement .dec_hl := fun _ => ⟨rfl, rfl⟩

theorem Encoding.inc_l : Encoding.Statement .inc_l := fun _ => ⟨rfl, rfl⟩

theorem Encoding.dec_l : Encoding.Statement .dec_l := fun _ => ⟨rfl, rfl⟩

theorem Encoding.ld_l_n (n : Byte) : Encoding.Statement (.ld_l_n n) :=
  Encoding.of_twoBytes rfl rfl rfl

theorem Encoding.cpl : Encoding.Statement .cpl := fun _ => ⟨rfl, rfl⟩

theorem Encoding.jr_nc_e (e : Byte) : Encoding.Statement (.jr_nc_e e) :=
  Encoding.of_twoBytes rfl rfl rfl

theorem Encoding.ld_sp_nn (nn : Word) : Encoding.Statement (.ld_sp_nn nn) :=
  Encoding.of_threeBytes rfl rfl (congrArg Instr.ld_sp_nn (ofBytes_hiByte_loByte nn))

theorem Encoding.ld_atHLdec_a : Encoding.Statement .ld_atHLdec_a := fun _ => ⟨rfl, rfl⟩

theorem Encoding.inc_sp : Encoding.Statement .inc_sp := fun _ => ⟨rfl, rfl⟩

theorem Encoding.inc_atHL : Encoding.Statement .inc_atHL := fun _ => ⟨rfl, rfl⟩

theorem Encoding.dec_atHL : Encoding.Statement .dec_atHL := fun _ => ⟨rfl, rfl⟩

theorem Encoding.ld_atHL_n (n : Byte) : Encoding.Statement (.ld_atHL_n n) :=
  Encoding.of_twoBytes rfl rfl rfl

theorem Encoding.scf : Encoding.Statement .scf := fun _ => ⟨rfl, rfl⟩

theorem Encoding.jr_c_e (e : Byte) : Encoding.Statement (.jr_c_e e) :=
  Encoding.of_twoBytes rfl rfl rfl

theorem Encoding.add_hl_sp : Encoding.Statement .add_hl_sp := fun _ => ⟨rfl, rfl⟩

theorem Encoding.ld_a_atHLdec : Encoding.Statement .ld_a_atHLdec := fun _ => ⟨rfl, rfl⟩

theorem Encoding.dec_sp : Encoding.Statement .dec_sp := fun _ => ⟨rfl, rfl⟩

theorem Encoding.inc_a : Encoding.Statement .inc_a := fun _ => ⟨rfl, rfl⟩

theorem Encoding.dec_a : Encoding.Statement .dec_a := fun _ => ⟨rfl, rfl⟩

theorem Encoding.ld_a_n (n : Byte) : Encoding.Statement (.ld_a_n n) :=
  Encoding.of_twoBytes rfl rfl rfl

theorem Encoding.ccf : Encoding.Statement .ccf := fun _ => ⟨rfl, rfl⟩

theorem Encoding.ld_b_b : Encoding.Statement .ld_b_b := fun _ => ⟨rfl, rfl⟩

theorem Encoding.ld_b_c : Encoding.Statement .ld_b_c := fun _ => ⟨rfl, rfl⟩

theorem Encoding.ld_b_d : Encoding.Statement .ld_b_d := fun _ => ⟨rfl, rfl⟩

theorem Encoding.ld_b_e : Encoding.Statement .ld_b_e := fun _ => ⟨rfl, rfl⟩

theorem Encoding.ld_b_h : Encoding.Statement .ld_b_h := fun _ => ⟨rfl, rfl⟩

theorem Encoding.ld_b_l : Encoding.Statement .ld_b_l := fun _ => ⟨rfl, rfl⟩

theorem Encoding.ld_b_atHL : Encoding.Statement .ld_b_atHL := fun _ => ⟨rfl, rfl⟩

theorem Encoding.ld_b_a : Encoding.Statement .ld_b_a := fun _ => ⟨rfl, rfl⟩

theorem Encoding.ld_c_b : Encoding.Statement .ld_c_b := fun _ => ⟨rfl, rfl⟩

theorem Encoding.ld_c_c : Encoding.Statement .ld_c_c := fun _ => ⟨rfl, rfl⟩

theorem Encoding.ld_c_d : Encoding.Statement .ld_c_d := fun _ => ⟨rfl, rfl⟩

theorem Encoding.ld_c_e : Encoding.Statement .ld_c_e := fun _ => ⟨rfl, rfl⟩

theorem Encoding.ld_c_h : Encoding.Statement .ld_c_h := fun _ => ⟨rfl, rfl⟩

theorem Encoding.ld_c_l : Encoding.Statement .ld_c_l := fun _ => ⟨rfl, rfl⟩

theorem Encoding.ld_c_atHL : Encoding.Statement .ld_c_atHL := fun _ => ⟨rfl, rfl⟩

theorem Encoding.ld_c_a : Encoding.Statement .ld_c_a := fun _ => ⟨rfl, rfl⟩

theorem Encoding.ld_d_b : Encoding.Statement .ld_d_b := fun _ => ⟨rfl, rfl⟩

theorem Encoding.ld_d_c : Encoding.Statement .ld_d_c := fun _ => ⟨rfl, rfl⟩

theorem Encoding.ld_d_d : Encoding.Statement .ld_d_d := fun _ => ⟨rfl, rfl⟩

theorem Encoding.ld_d_e : Encoding.Statement .ld_d_e := fun _ => ⟨rfl, rfl⟩

theorem Encoding.ld_d_h : Encoding.Statement .ld_d_h := fun _ => ⟨rfl, rfl⟩

theorem Encoding.ld_d_l : Encoding.Statement .ld_d_l := fun _ => ⟨rfl, rfl⟩

theorem Encoding.ld_d_atHL : Encoding.Statement .ld_d_atHL := fun _ => ⟨rfl, rfl⟩

theorem Encoding.ld_d_a : Encoding.Statement .ld_d_a := fun _ => ⟨rfl, rfl⟩

theorem Encoding.ld_e_b : Encoding.Statement .ld_e_b := fun _ => ⟨rfl, rfl⟩

theorem Encoding.ld_e_c : Encoding.Statement .ld_e_c := fun _ => ⟨rfl, rfl⟩

theorem Encoding.ld_e_d : Encoding.Statement .ld_e_d := fun _ => ⟨rfl, rfl⟩

theorem Encoding.ld_e_e : Encoding.Statement .ld_e_e := fun _ => ⟨rfl, rfl⟩

theorem Encoding.ld_e_h : Encoding.Statement .ld_e_h := fun _ => ⟨rfl, rfl⟩

theorem Encoding.ld_e_l : Encoding.Statement .ld_e_l := fun _ => ⟨rfl, rfl⟩

theorem Encoding.ld_e_atHL : Encoding.Statement .ld_e_atHL := fun _ => ⟨rfl, rfl⟩

theorem Encoding.ld_e_a : Encoding.Statement .ld_e_a := fun _ => ⟨rfl, rfl⟩

theorem Encoding.ld_h_b : Encoding.Statement .ld_h_b := fun _ => ⟨rfl, rfl⟩

theorem Encoding.ld_h_c : Encoding.Statement .ld_h_c := fun _ => ⟨rfl, rfl⟩

theorem Encoding.ld_h_d : Encoding.Statement .ld_h_d := fun _ => ⟨rfl, rfl⟩

theorem Encoding.ld_h_e : Encoding.Statement .ld_h_e := fun _ => ⟨rfl, rfl⟩

theorem Encoding.ld_h_h : Encoding.Statement .ld_h_h := fun _ => ⟨rfl, rfl⟩

theorem Encoding.ld_h_l : Encoding.Statement .ld_h_l := fun _ => ⟨rfl, rfl⟩

theorem Encoding.ld_h_atHL : Encoding.Statement .ld_h_atHL := fun _ => ⟨rfl, rfl⟩

theorem Encoding.ld_h_a : Encoding.Statement .ld_h_a := fun _ => ⟨rfl, rfl⟩

theorem Encoding.ld_l_b : Encoding.Statement .ld_l_b := fun _ => ⟨rfl, rfl⟩

theorem Encoding.ld_l_c : Encoding.Statement .ld_l_c := fun _ => ⟨rfl, rfl⟩

theorem Encoding.ld_l_d : Encoding.Statement .ld_l_d := fun _ => ⟨rfl, rfl⟩

theorem Encoding.ld_l_e : Encoding.Statement .ld_l_e := fun _ => ⟨rfl, rfl⟩

theorem Encoding.ld_l_h : Encoding.Statement .ld_l_h := fun _ => ⟨rfl, rfl⟩

theorem Encoding.ld_l_l : Encoding.Statement .ld_l_l := fun _ => ⟨rfl, rfl⟩

theorem Encoding.ld_l_atHL : Encoding.Statement .ld_l_atHL := fun _ => ⟨rfl, rfl⟩

theorem Encoding.ld_l_a : Encoding.Statement .ld_l_a := fun _ => ⟨rfl, rfl⟩

theorem Encoding.ld_atHL_b : Encoding.Statement .ld_atHL_b := fun _ => ⟨rfl, rfl⟩

theorem Encoding.ld_atHL_c : Encoding.Statement .ld_atHL_c := fun _ => ⟨rfl, rfl⟩

theorem Encoding.ld_atHL_d : Encoding.Statement .ld_atHL_d := fun _ => ⟨rfl, rfl⟩

theorem Encoding.ld_atHL_e : Encoding.Statement .ld_atHL_e := fun _ => ⟨rfl, rfl⟩

theorem Encoding.ld_atHL_h : Encoding.Statement .ld_atHL_h := fun _ => ⟨rfl, rfl⟩

theorem Encoding.ld_atHL_l : Encoding.Statement .ld_atHL_l := fun _ => ⟨rfl, rfl⟩

theorem Encoding.halt : Encoding.Statement .halt := fun _ => ⟨rfl, rfl⟩

theorem Encoding.ld_atHL_a : Encoding.Statement .ld_atHL_a := fun _ => ⟨rfl, rfl⟩

theorem Encoding.ld_a_b : Encoding.Statement .ld_a_b := fun _ => ⟨rfl, rfl⟩

theorem Encoding.ld_a_c : Encoding.Statement .ld_a_c := fun _ => ⟨rfl, rfl⟩

theorem Encoding.ld_a_d : Encoding.Statement .ld_a_d := fun _ => ⟨rfl, rfl⟩

theorem Encoding.ld_a_e : Encoding.Statement .ld_a_e := fun _ => ⟨rfl, rfl⟩

theorem Encoding.ld_a_h : Encoding.Statement .ld_a_h := fun _ => ⟨rfl, rfl⟩

theorem Encoding.ld_a_l : Encoding.Statement .ld_a_l := fun _ => ⟨rfl, rfl⟩

theorem Encoding.ld_a_atHL : Encoding.Statement .ld_a_atHL := fun _ => ⟨rfl, rfl⟩

theorem Encoding.ld_a_a : Encoding.Statement .ld_a_a := fun _ => ⟨rfl, rfl⟩

theorem Encoding.add_a_b : Encoding.Statement .add_a_b := fun _ => ⟨rfl, rfl⟩

theorem Encoding.add_a_c : Encoding.Statement .add_a_c := fun _ => ⟨rfl, rfl⟩

theorem Encoding.add_a_d : Encoding.Statement .add_a_d := fun _ => ⟨rfl, rfl⟩

theorem Encoding.add_a_e : Encoding.Statement .add_a_e := fun _ => ⟨rfl, rfl⟩

theorem Encoding.add_a_h : Encoding.Statement .add_a_h := fun _ => ⟨rfl, rfl⟩

theorem Encoding.add_a_l : Encoding.Statement .add_a_l := fun _ => ⟨rfl, rfl⟩

theorem Encoding.add_a_atHL : Encoding.Statement .add_a_atHL := fun _ => ⟨rfl, rfl⟩

theorem Encoding.add_a_a : Encoding.Statement .add_a_a := fun _ => ⟨rfl, rfl⟩

theorem Encoding.adc_a_b : Encoding.Statement .adc_a_b := fun _ => ⟨rfl, rfl⟩

theorem Encoding.adc_a_c : Encoding.Statement .adc_a_c := fun _ => ⟨rfl, rfl⟩

theorem Encoding.adc_a_d : Encoding.Statement .adc_a_d := fun _ => ⟨rfl, rfl⟩

theorem Encoding.adc_a_e : Encoding.Statement .adc_a_e := fun _ => ⟨rfl, rfl⟩

theorem Encoding.adc_a_h : Encoding.Statement .adc_a_h := fun _ => ⟨rfl, rfl⟩

theorem Encoding.adc_a_l : Encoding.Statement .adc_a_l := fun _ => ⟨rfl, rfl⟩

theorem Encoding.adc_a_atHL : Encoding.Statement .adc_a_atHL := fun _ => ⟨rfl, rfl⟩

theorem Encoding.adc_a_a : Encoding.Statement .adc_a_a := fun _ => ⟨rfl, rfl⟩

theorem Encoding.sub_b : Encoding.Statement .sub_b := fun _ => ⟨rfl, rfl⟩

theorem Encoding.sub_c : Encoding.Statement .sub_c := fun _ => ⟨rfl, rfl⟩

theorem Encoding.sub_d : Encoding.Statement .sub_d := fun _ => ⟨rfl, rfl⟩

theorem Encoding.sub_e : Encoding.Statement .sub_e := fun _ => ⟨rfl, rfl⟩

theorem Encoding.sub_h : Encoding.Statement .sub_h := fun _ => ⟨rfl, rfl⟩

theorem Encoding.sub_l : Encoding.Statement .sub_l := fun _ => ⟨rfl, rfl⟩

theorem Encoding.sub_atHL : Encoding.Statement .sub_atHL := fun _ => ⟨rfl, rfl⟩

theorem Encoding.sub_a : Encoding.Statement .sub_a := fun _ => ⟨rfl, rfl⟩

theorem Encoding.sbc_a_b : Encoding.Statement .sbc_a_b := fun _ => ⟨rfl, rfl⟩

theorem Encoding.sbc_a_c : Encoding.Statement .sbc_a_c := fun _ => ⟨rfl, rfl⟩

theorem Encoding.sbc_a_d : Encoding.Statement .sbc_a_d := fun _ => ⟨rfl, rfl⟩

theorem Encoding.sbc_a_e : Encoding.Statement .sbc_a_e := fun _ => ⟨rfl, rfl⟩

theorem Encoding.sbc_a_h : Encoding.Statement .sbc_a_h := fun _ => ⟨rfl, rfl⟩

theorem Encoding.sbc_a_l : Encoding.Statement .sbc_a_l := fun _ => ⟨rfl, rfl⟩

theorem Encoding.sbc_a_atHL : Encoding.Statement .sbc_a_atHL := fun _ => ⟨rfl, rfl⟩

theorem Encoding.sbc_a_a : Encoding.Statement .sbc_a_a := fun _ => ⟨rfl, rfl⟩

theorem Encoding.and_b : Encoding.Statement .and_b := fun _ => ⟨rfl, rfl⟩

theorem Encoding.and_c : Encoding.Statement .and_c := fun _ => ⟨rfl, rfl⟩

theorem Encoding.and_d : Encoding.Statement .and_d := fun _ => ⟨rfl, rfl⟩

theorem Encoding.and_e : Encoding.Statement .and_e := fun _ => ⟨rfl, rfl⟩

theorem Encoding.and_h : Encoding.Statement .and_h := fun _ => ⟨rfl, rfl⟩

theorem Encoding.and_l : Encoding.Statement .and_l := fun _ => ⟨rfl, rfl⟩

theorem Encoding.and_atHL : Encoding.Statement .and_atHL := fun _ => ⟨rfl, rfl⟩

theorem Encoding.and_a : Encoding.Statement .and_a := fun _ => ⟨rfl, rfl⟩

theorem Encoding.xor_b : Encoding.Statement .xor_b := fun _ => ⟨rfl, rfl⟩

theorem Encoding.xor_c : Encoding.Statement .xor_c := fun _ => ⟨rfl, rfl⟩

theorem Encoding.xor_d : Encoding.Statement .xor_d := fun _ => ⟨rfl, rfl⟩

theorem Encoding.xor_e : Encoding.Statement .xor_e := fun _ => ⟨rfl, rfl⟩

theorem Encoding.xor_h : Encoding.Statement .xor_h := fun _ => ⟨rfl, rfl⟩

theorem Encoding.xor_l : Encoding.Statement .xor_l := fun _ => ⟨rfl, rfl⟩

theorem Encoding.xor_atHL : Encoding.Statement .xor_atHL := fun _ => ⟨rfl, rfl⟩

theorem Encoding.xor_a : Encoding.Statement .xor_a := fun _ => ⟨rfl, rfl⟩

theorem Encoding.or_b : Encoding.Statement .or_b := fun _ => ⟨rfl, rfl⟩

theorem Encoding.or_c : Encoding.Statement .or_c := fun _ => ⟨rfl, rfl⟩

theorem Encoding.or_d : Encoding.Statement .or_d := fun _ => ⟨rfl, rfl⟩

theorem Encoding.or_e : Encoding.Statement .or_e := fun _ => ⟨rfl, rfl⟩

theorem Encoding.or_h : Encoding.Statement .or_h := fun _ => ⟨rfl, rfl⟩

theorem Encoding.or_l : Encoding.Statement .or_l := fun _ => ⟨rfl, rfl⟩

theorem Encoding.or_atHL : Encoding.Statement .or_atHL := fun _ => ⟨rfl, rfl⟩

theorem Encoding.or_a : Encoding.Statement .or_a := fun _ => ⟨rfl, rfl⟩

theorem Encoding.cp_b : Encoding.Statement .cp_b := fun _ => ⟨rfl, rfl⟩

theorem Encoding.cp_c : Encoding.Statement .cp_c := fun _ => ⟨rfl, rfl⟩

theorem Encoding.cp_d : Encoding.Statement .cp_d := fun _ => ⟨rfl, rfl⟩

theorem Encoding.cp_e : Encoding.Statement .cp_e := fun _ => ⟨rfl, rfl⟩

theorem Encoding.cp_h : Encoding.Statement .cp_h := fun _ => ⟨rfl, rfl⟩

theorem Encoding.cp_l : Encoding.Statement .cp_l := fun _ => ⟨rfl, rfl⟩

theorem Encoding.cp_atHL : Encoding.Statement .cp_atHL := fun _ => ⟨rfl, rfl⟩

theorem Encoding.cp_a : Encoding.Statement .cp_a := fun _ => ⟨rfl, rfl⟩

theorem Encoding.ret_nz : Encoding.Statement .ret_nz := fun _ => ⟨rfl, rfl⟩

theorem Encoding.pop_bc : Encoding.Statement .pop_bc := fun _ => ⟨rfl, rfl⟩

theorem Encoding.jp_nz_nn (nn : Word) : Encoding.Statement (.jp_nz_nn nn) :=
  Encoding.of_threeBytes rfl rfl (congrArg Instr.jp_nz_nn (ofBytes_hiByte_loByte nn))

theorem Encoding.jp_nn (nn : Word) : Encoding.Statement (.jp_nn nn) :=
  Encoding.of_threeBytes rfl rfl (congrArg Instr.jp_nn (ofBytes_hiByte_loByte nn))

theorem Encoding.call_nz_nn (nn : Word) : Encoding.Statement (.call_nz_nn nn) :=
  Encoding.of_threeBytes rfl rfl (congrArg Instr.call_nz_nn (ofBytes_hiByte_loByte nn))

theorem Encoding.push_bc : Encoding.Statement .push_bc := fun _ => ⟨rfl, rfl⟩

theorem Encoding.add_a_n (n : Byte) : Encoding.Statement (.add_a_n n) :=
  Encoding.of_twoBytes rfl rfl rfl

theorem Encoding.rst_0x00 : Encoding.Statement .rst_0x00 := fun _ => ⟨rfl, rfl⟩

theorem Encoding.ret_z : Encoding.Statement .ret_z := fun _ => ⟨rfl, rfl⟩

theorem Encoding.ret : Encoding.Statement .ret := fun _ => ⟨rfl, rfl⟩

theorem Encoding.jp_z_nn (nn : Word) : Encoding.Statement (.jp_z_nn nn) :=
  Encoding.of_threeBytes rfl rfl (congrArg Instr.jp_z_nn (ofBytes_hiByte_loByte nn))

theorem Encoding.call_z_nn (nn : Word) : Encoding.Statement (.call_z_nn nn) :=
  Encoding.of_threeBytes rfl rfl (congrArg Instr.call_z_nn (ofBytes_hiByte_loByte nn))

theorem Encoding.call_nn (nn : Word) : Encoding.Statement (.call_nn nn) :=
  Encoding.of_threeBytes rfl rfl (congrArg Instr.call_nn (ofBytes_hiByte_loByte nn))

theorem Encoding.adc_a_n (n : Byte) : Encoding.Statement (.adc_a_n n) :=
  Encoding.of_twoBytes rfl rfl rfl

theorem Encoding.rst_0x08 : Encoding.Statement .rst_0x08 := fun _ => ⟨rfl, rfl⟩

theorem Encoding.ret_nc : Encoding.Statement .ret_nc := fun _ => ⟨rfl, rfl⟩

theorem Encoding.pop_de : Encoding.Statement .pop_de := fun _ => ⟨rfl, rfl⟩

theorem Encoding.jp_nc_nn (nn : Word) : Encoding.Statement (.jp_nc_nn nn) :=
  Encoding.of_threeBytes rfl rfl (congrArg Instr.jp_nc_nn (ofBytes_hiByte_loByte nn))

theorem Encoding.call_nc_nn (nn : Word) : Encoding.Statement (.call_nc_nn nn) :=
  Encoding.of_threeBytes rfl rfl (congrArg Instr.call_nc_nn (ofBytes_hiByte_loByte nn))

theorem Encoding.push_de : Encoding.Statement .push_de := fun _ => ⟨rfl, rfl⟩

theorem Encoding.sub_n (n : Byte) : Encoding.Statement (.sub_n n) :=
  Encoding.of_twoBytes rfl rfl rfl

theorem Encoding.rst_0x10 : Encoding.Statement .rst_0x10 := fun _ => ⟨rfl, rfl⟩

theorem Encoding.ret_c : Encoding.Statement .ret_c := fun _ => ⟨rfl, rfl⟩

theorem Encoding.reti : Encoding.Statement .reti := fun _ => ⟨rfl, rfl⟩

theorem Encoding.jp_c_nn (nn : Word) : Encoding.Statement (.jp_c_nn nn) :=
  Encoding.of_threeBytes rfl rfl (congrArg Instr.jp_c_nn (ofBytes_hiByte_loByte nn))

theorem Encoding.call_c_nn (nn : Word) : Encoding.Statement (.call_c_nn nn) :=
  Encoding.of_threeBytes rfl rfl (congrArg Instr.call_c_nn (ofBytes_hiByte_loByte nn))

theorem Encoding.sbc_a_n (n : Byte) : Encoding.Statement (.sbc_a_n n) :=
  Encoding.of_twoBytes rfl rfl rfl

theorem Encoding.rst_0x18 : Encoding.Statement .rst_0x18 := fun _ => ⟨rfl, rfl⟩

theorem Encoding.ldh_atN_a (n : Byte) : Encoding.Statement (.ldh_atN_a n) :=
  Encoding.of_twoBytes rfl rfl rfl

theorem Encoding.pop_hl : Encoding.Statement .pop_hl := fun _ => ⟨rfl, rfl⟩

theorem Encoding.ldh_atC_a : Encoding.Statement .ldh_atC_a := fun _ => ⟨rfl, rfl⟩

theorem Encoding.push_hl : Encoding.Statement .push_hl := fun _ => ⟨rfl, rfl⟩

theorem Encoding.and_n (n : Byte) : Encoding.Statement (.and_n n) :=
  Encoding.of_twoBytes rfl rfl rfl

theorem Encoding.rst_0x20 : Encoding.Statement .rst_0x20 := fun _ => ⟨rfl, rfl⟩

theorem Encoding.add_sp_e (e : Byte) : Encoding.Statement (.add_sp_e e) :=
  Encoding.of_twoBytes rfl rfl rfl

theorem Encoding.jp_hl : Encoding.Statement .jp_hl := fun _ => ⟨rfl, rfl⟩

theorem Encoding.ld_atNN_a (nn : Word) : Encoding.Statement (.ld_atNN_a nn) :=
  Encoding.of_threeBytes rfl rfl (congrArg Instr.ld_atNN_a (ofBytes_hiByte_loByte nn))

theorem Encoding.xor_n (n : Byte) : Encoding.Statement (.xor_n n) :=
  Encoding.of_twoBytes rfl rfl rfl

theorem Encoding.rst_0x28 : Encoding.Statement .rst_0x28 := fun _ => ⟨rfl, rfl⟩

theorem Encoding.ldh_a_atN (n : Byte) : Encoding.Statement (.ldh_a_atN n) :=
  Encoding.of_twoBytes rfl rfl rfl

theorem Encoding.pop_af : Encoding.Statement .pop_af := fun _ => ⟨rfl, rfl⟩

theorem Encoding.ldh_a_atC : Encoding.Statement .ldh_a_atC := fun _ => ⟨rfl, rfl⟩

theorem Encoding.di : Encoding.Statement .di := fun _ => ⟨rfl, rfl⟩

theorem Encoding.push_af : Encoding.Statement .push_af := fun _ => ⟨rfl, rfl⟩

theorem Encoding.or_n (n : Byte) : Encoding.Statement (.or_n n) :=
  Encoding.of_twoBytes rfl rfl rfl

theorem Encoding.rst_0x30 : Encoding.Statement .rst_0x30 := fun _ => ⟨rfl, rfl⟩

theorem Encoding.ld_hl_spPlusE (e : Byte) : Encoding.Statement (.ld_hl_spPlusE e) :=
  Encoding.of_twoBytes rfl rfl rfl

theorem Encoding.ld_sp_hl : Encoding.Statement .ld_sp_hl := fun _ => ⟨rfl, rfl⟩

theorem Encoding.ld_a_atNN (nn : Word) : Encoding.Statement (.ld_a_atNN nn) :=
  Encoding.of_threeBytes rfl rfl (congrArg Instr.ld_a_atNN (ofBytes_hiByte_loByte nn))

theorem Encoding.ei : Encoding.Statement .ei := fun _ => ⟨rfl, rfl⟩

theorem Encoding.cp_n (n : Byte) : Encoding.Statement (.cp_n n) :=
  Encoding.of_twoBytes rfl rfl rfl

theorem Encoding.rst_0x38 : Encoding.Statement .rst_0x38 := fun _ => ⟨rfl, rfl⟩

theorem Encoding.rlc_b : Encoding.Statement .rlc_b := fun _ => ⟨rfl, rfl⟩

theorem Encoding.rlc_c : Encoding.Statement .rlc_c := fun _ => ⟨rfl, rfl⟩

theorem Encoding.rlc_d : Encoding.Statement .rlc_d := fun _ => ⟨rfl, rfl⟩

theorem Encoding.rlc_e : Encoding.Statement .rlc_e := fun _ => ⟨rfl, rfl⟩

theorem Encoding.rlc_h : Encoding.Statement .rlc_h := fun _ => ⟨rfl, rfl⟩

theorem Encoding.rlc_l : Encoding.Statement .rlc_l := fun _ => ⟨rfl, rfl⟩

theorem Encoding.rlc_atHL : Encoding.Statement .rlc_atHL := fun _ => ⟨rfl, rfl⟩

theorem Encoding.rlc_a : Encoding.Statement .rlc_a := fun _ => ⟨rfl, rfl⟩

theorem Encoding.rrc_b : Encoding.Statement .rrc_b := fun _ => ⟨rfl, rfl⟩

theorem Encoding.rrc_c : Encoding.Statement .rrc_c := fun _ => ⟨rfl, rfl⟩

theorem Encoding.rrc_d : Encoding.Statement .rrc_d := fun _ => ⟨rfl, rfl⟩

theorem Encoding.rrc_e : Encoding.Statement .rrc_e := fun _ => ⟨rfl, rfl⟩

theorem Encoding.rrc_h : Encoding.Statement .rrc_h := fun _ => ⟨rfl, rfl⟩

theorem Encoding.rrc_l : Encoding.Statement .rrc_l := fun _ => ⟨rfl, rfl⟩

theorem Encoding.rrc_atHL : Encoding.Statement .rrc_atHL := fun _ => ⟨rfl, rfl⟩

theorem Encoding.rrc_a : Encoding.Statement .rrc_a := fun _ => ⟨rfl, rfl⟩

theorem Encoding.rl_b : Encoding.Statement .rl_b := fun _ => ⟨rfl, rfl⟩

theorem Encoding.rl_c : Encoding.Statement .rl_c := fun _ => ⟨rfl, rfl⟩

theorem Encoding.rl_d : Encoding.Statement .rl_d := fun _ => ⟨rfl, rfl⟩

theorem Encoding.rl_e : Encoding.Statement .rl_e := fun _ => ⟨rfl, rfl⟩

theorem Encoding.rl_h : Encoding.Statement .rl_h := fun _ => ⟨rfl, rfl⟩

theorem Encoding.rl_l : Encoding.Statement .rl_l := fun _ => ⟨rfl, rfl⟩

theorem Encoding.rl_atHL : Encoding.Statement .rl_atHL := fun _ => ⟨rfl, rfl⟩

theorem Encoding.rl_a : Encoding.Statement .rl_a := fun _ => ⟨rfl, rfl⟩

theorem Encoding.rr_b : Encoding.Statement .rr_b := fun _ => ⟨rfl, rfl⟩

theorem Encoding.rr_c : Encoding.Statement .rr_c := fun _ => ⟨rfl, rfl⟩

theorem Encoding.rr_d : Encoding.Statement .rr_d := fun _ => ⟨rfl, rfl⟩

theorem Encoding.rr_e : Encoding.Statement .rr_e := fun _ => ⟨rfl, rfl⟩

theorem Encoding.rr_h : Encoding.Statement .rr_h := fun _ => ⟨rfl, rfl⟩

theorem Encoding.rr_l : Encoding.Statement .rr_l := fun _ => ⟨rfl, rfl⟩

theorem Encoding.rr_atHL : Encoding.Statement .rr_atHL := fun _ => ⟨rfl, rfl⟩

theorem Encoding.rr_a : Encoding.Statement .rr_a := fun _ => ⟨rfl, rfl⟩

theorem Encoding.sla_b : Encoding.Statement .sla_b := fun _ => ⟨rfl, rfl⟩

theorem Encoding.sla_c : Encoding.Statement .sla_c := fun _ => ⟨rfl, rfl⟩

theorem Encoding.sla_d : Encoding.Statement .sla_d := fun _ => ⟨rfl, rfl⟩

theorem Encoding.sla_e : Encoding.Statement .sla_e := fun _ => ⟨rfl, rfl⟩

theorem Encoding.sla_h : Encoding.Statement .sla_h := fun _ => ⟨rfl, rfl⟩

theorem Encoding.sla_l : Encoding.Statement .sla_l := fun _ => ⟨rfl, rfl⟩

theorem Encoding.sla_atHL : Encoding.Statement .sla_atHL := fun _ => ⟨rfl, rfl⟩

theorem Encoding.sla_a : Encoding.Statement .sla_a := fun _ => ⟨rfl, rfl⟩

theorem Encoding.sra_b : Encoding.Statement .sra_b := fun _ => ⟨rfl, rfl⟩

theorem Encoding.sra_c : Encoding.Statement .sra_c := fun _ => ⟨rfl, rfl⟩

theorem Encoding.sra_d : Encoding.Statement .sra_d := fun _ => ⟨rfl, rfl⟩

theorem Encoding.sra_e : Encoding.Statement .sra_e := fun _ => ⟨rfl, rfl⟩

theorem Encoding.sra_h : Encoding.Statement .sra_h := fun _ => ⟨rfl, rfl⟩

theorem Encoding.sra_l : Encoding.Statement .sra_l := fun _ => ⟨rfl, rfl⟩

theorem Encoding.sra_atHL : Encoding.Statement .sra_atHL := fun _ => ⟨rfl, rfl⟩

theorem Encoding.sra_a : Encoding.Statement .sra_a := fun _ => ⟨rfl, rfl⟩

theorem Encoding.swap_b : Encoding.Statement .swap_b := fun _ => ⟨rfl, rfl⟩

theorem Encoding.swap_c : Encoding.Statement .swap_c := fun _ => ⟨rfl, rfl⟩

theorem Encoding.swap_d : Encoding.Statement .swap_d := fun _ => ⟨rfl, rfl⟩

theorem Encoding.swap_e : Encoding.Statement .swap_e := fun _ => ⟨rfl, rfl⟩

theorem Encoding.swap_h : Encoding.Statement .swap_h := fun _ => ⟨rfl, rfl⟩

theorem Encoding.swap_l : Encoding.Statement .swap_l := fun _ => ⟨rfl, rfl⟩

theorem Encoding.swap_atHL : Encoding.Statement .swap_atHL := fun _ => ⟨rfl, rfl⟩

theorem Encoding.swap_a : Encoding.Statement .swap_a := fun _ => ⟨rfl, rfl⟩

theorem Encoding.srl_b : Encoding.Statement .srl_b := fun _ => ⟨rfl, rfl⟩

theorem Encoding.srl_c : Encoding.Statement .srl_c := fun _ => ⟨rfl, rfl⟩

theorem Encoding.srl_d : Encoding.Statement .srl_d := fun _ => ⟨rfl, rfl⟩

theorem Encoding.srl_e : Encoding.Statement .srl_e := fun _ => ⟨rfl, rfl⟩

theorem Encoding.srl_h : Encoding.Statement .srl_h := fun _ => ⟨rfl, rfl⟩

theorem Encoding.srl_l : Encoding.Statement .srl_l := fun _ => ⟨rfl, rfl⟩

theorem Encoding.srl_atHL : Encoding.Statement .srl_atHL := fun _ => ⟨rfl, rfl⟩

theorem Encoding.srl_a : Encoding.Statement .srl_a := fun _ => ⟨rfl, rfl⟩

theorem Encoding.bit_0_b : Encoding.Statement .bit_0_b := fun _ => ⟨rfl, rfl⟩

theorem Encoding.bit_0_c : Encoding.Statement .bit_0_c := fun _ => ⟨rfl, rfl⟩

theorem Encoding.bit_0_d : Encoding.Statement .bit_0_d := fun _ => ⟨rfl, rfl⟩

theorem Encoding.bit_0_e : Encoding.Statement .bit_0_e := fun _ => ⟨rfl, rfl⟩

theorem Encoding.bit_0_h : Encoding.Statement .bit_0_h := fun _ => ⟨rfl, rfl⟩

theorem Encoding.bit_0_l : Encoding.Statement .bit_0_l := fun _ => ⟨rfl, rfl⟩

theorem Encoding.bit_0_atHL : Encoding.Statement .bit_0_atHL := fun _ => ⟨rfl, rfl⟩

theorem Encoding.bit_0_a : Encoding.Statement .bit_0_a := fun _ => ⟨rfl, rfl⟩

theorem Encoding.bit_1_b : Encoding.Statement .bit_1_b := fun _ => ⟨rfl, rfl⟩

theorem Encoding.bit_1_c : Encoding.Statement .bit_1_c := fun _ => ⟨rfl, rfl⟩

theorem Encoding.bit_1_d : Encoding.Statement .bit_1_d := fun _ => ⟨rfl, rfl⟩

theorem Encoding.bit_1_e : Encoding.Statement .bit_1_e := fun _ => ⟨rfl, rfl⟩

theorem Encoding.bit_1_h : Encoding.Statement .bit_1_h := fun _ => ⟨rfl, rfl⟩

theorem Encoding.bit_1_l : Encoding.Statement .bit_1_l := fun _ => ⟨rfl, rfl⟩

theorem Encoding.bit_1_atHL : Encoding.Statement .bit_1_atHL := fun _ => ⟨rfl, rfl⟩

theorem Encoding.bit_1_a : Encoding.Statement .bit_1_a := fun _ => ⟨rfl, rfl⟩

theorem Encoding.bit_2_b : Encoding.Statement .bit_2_b := fun _ => ⟨rfl, rfl⟩

theorem Encoding.bit_2_c : Encoding.Statement .bit_2_c := fun _ => ⟨rfl, rfl⟩

theorem Encoding.bit_2_d : Encoding.Statement .bit_2_d := fun _ => ⟨rfl, rfl⟩

theorem Encoding.bit_2_e : Encoding.Statement .bit_2_e := fun _ => ⟨rfl, rfl⟩

theorem Encoding.bit_2_h : Encoding.Statement .bit_2_h := fun _ => ⟨rfl, rfl⟩

theorem Encoding.bit_2_l : Encoding.Statement .bit_2_l := fun _ => ⟨rfl, rfl⟩

theorem Encoding.bit_2_atHL : Encoding.Statement .bit_2_atHL := fun _ => ⟨rfl, rfl⟩

theorem Encoding.bit_2_a : Encoding.Statement .bit_2_a := fun _ => ⟨rfl, rfl⟩

theorem Encoding.bit_3_b : Encoding.Statement .bit_3_b := fun _ => ⟨rfl, rfl⟩

theorem Encoding.bit_3_c : Encoding.Statement .bit_3_c := fun _ => ⟨rfl, rfl⟩

theorem Encoding.bit_3_d : Encoding.Statement .bit_3_d := fun _ => ⟨rfl, rfl⟩

theorem Encoding.bit_3_e : Encoding.Statement .bit_3_e := fun _ => ⟨rfl, rfl⟩

theorem Encoding.bit_3_h : Encoding.Statement .bit_3_h := fun _ => ⟨rfl, rfl⟩

theorem Encoding.bit_3_l : Encoding.Statement .bit_3_l := fun _ => ⟨rfl, rfl⟩

theorem Encoding.bit_3_atHL : Encoding.Statement .bit_3_atHL := fun _ => ⟨rfl, rfl⟩

theorem Encoding.bit_3_a : Encoding.Statement .bit_3_a := fun _ => ⟨rfl, rfl⟩

theorem Encoding.bit_4_b : Encoding.Statement .bit_4_b := fun _ => ⟨rfl, rfl⟩

theorem Encoding.bit_4_c : Encoding.Statement .bit_4_c := fun _ => ⟨rfl, rfl⟩

theorem Encoding.bit_4_d : Encoding.Statement .bit_4_d := fun _ => ⟨rfl, rfl⟩

theorem Encoding.bit_4_e : Encoding.Statement .bit_4_e := fun _ => ⟨rfl, rfl⟩

theorem Encoding.bit_4_h : Encoding.Statement .bit_4_h := fun _ => ⟨rfl, rfl⟩

theorem Encoding.bit_4_l : Encoding.Statement .bit_4_l := fun _ => ⟨rfl, rfl⟩

theorem Encoding.bit_4_atHL : Encoding.Statement .bit_4_atHL := fun _ => ⟨rfl, rfl⟩

theorem Encoding.bit_4_a : Encoding.Statement .bit_4_a := fun _ => ⟨rfl, rfl⟩

theorem Encoding.bit_5_b : Encoding.Statement .bit_5_b := fun _ => ⟨rfl, rfl⟩

theorem Encoding.bit_5_c : Encoding.Statement .bit_5_c := fun _ => ⟨rfl, rfl⟩

theorem Encoding.bit_5_d : Encoding.Statement .bit_5_d := fun _ => ⟨rfl, rfl⟩

theorem Encoding.bit_5_e : Encoding.Statement .bit_5_e := fun _ => ⟨rfl, rfl⟩

theorem Encoding.bit_5_h : Encoding.Statement .bit_5_h := fun _ => ⟨rfl, rfl⟩

theorem Encoding.bit_5_l : Encoding.Statement .bit_5_l := fun _ => ⟨rfl, rfl⟩

theorem Encoding.bit_5_atHL : Encoding.Statement .bit_5_atHL := fun _ => ⟨rfl, rfl⟩

theorem Encoding.bit_5_a : Encoding.Statement .bit_5_a := fun _ => ⟨rfl, rfl⟩

theorem Encoding.bit_6_b : Encoding.Statement .bit_6_b := fun _ => ⟨rfl, rfl⟩

theorem Encoding.bit_6_c : Encoding.Statement .bit_6_c := fun _ => ⟨rfl, rfl⟩

theorem Encoding.bit_6_d : Encoding.Statement .bit_6_d := fun _ => ⟨rfl, rfl⟩

theorem Encoding.bit_6_e : Encoding.Statement .bit_6_e := fun _ => ⟨rfl, rfl⟩

theorem Encoding.bit_6_h : Encoding.Statement .bit_6_h := fun _ => ⟨rfl, rfl⟩

theorem Encoding.bit_6_l : Encoding.Statement .bit_6_l := fun _ => ⟨rfl, rfl⟩

theorem Encoding.bit_6_atHL : Encoding.Statement .bit_6_atHL := fun _ => ⟨rfl, rfl⟩

theorem Encoding.bit_6_a : Encoding.Statement .bit_6_a := fun _ => ⟨rfl, rfl⟩

theorem Encoding.bit_7_b : Encoding.Statement .bit_7_b := fun _ => ⟨rfl, rfl⟩

theorem Encoding.bit_7_c : Encoding.Statement .bit_7_c := fun _ => ⟨rfl, rfl⟩

theorem Encoding.bit_7_d : Encoding.Statement .bit_7_d := fun _ => ⟨rfl, rfl⟩

theorem Encoding.bit_7_e : Encoding.Statement .bit_7_e := fun _ => ⟨rfl, rfl⟩

theorem Encoding.bit_7_h : Encoding.Statement .bit_7_h := fun _ => ⟨rfl, rfl⟩

theorem Encoding.bit_7_l : Encoding.Statement .bit_7_l := fun _ => ⟨rfl, rfl⟩

theorem Encoding.bit_7_atHL : Encoding.Statement .bit_7_atHL := fun _ => ⟨rfl, rfl⟩

theorem Encoding.bit_7_a : Encoding.Statement .bit_7_a := fun _ => ⟨rfl, rfl⟩

theorem Encoding.res_0_b : Encoding.Statement .res_0_b := fun _ => ⟨rfl, rfl⟩

theorem Encoding.res_0_c : Encoding.Statement .res_0_c := fun _ => ⟨rfl, rfl⟩

theorem Encoding.res_0_d : Encoding.Statement .res_0_d := fun _ => ⟨rfl, rfl⟩

theorem Encoding.res_0_e : Encoding.Statement .res_0_e := fun _ => ⟨rfl, rfl⟩

theorem Encoding.res_0_h : Encoding.Statement .res_0_h := fun _ => ⟨rfl, rfl⟩

theorem Encoding.res_0_l : Encoding.Statement .res_0_l := fun _ => ⟨rfl, rfl⟩

theorem Encoding.res_0_atHL : Encoding.Statement .res_0_atHL := fun _ => ⟨rfl, rfl⟩

theorem Encoding.res_0_a : Encoding.Statement .res_0_a := fun _ => ⟨rfl, rfl⟩

theorem Encoding.res_1_b : Encoding.Statement .res_1_b := fun _ => ⟨rfl, rfl⟩

theorem Encoding.res_1_c : Encoding.Statement .res_1_c := fun _ => ⟨rfl, rfl⟩

theorem Encoding.res_1_d : Encoding.Statement .res_1_d := fun _ => ⟨rfl, rfl⟩

theorem Encoding.res_1_e : Encoding.Statement .res_1_e := fun _ => ⟨rfl, rfl⟩

theorem Encoding.res_1_h : Encoding.Statement .res_1_h := fun _ => ⟨rfl, rfl⟩

theorem Encoding.res_1_l : Encoding.Statement .res_1_l := fun _ => ⟨rfl, rfl⟩

theorem Encoding.res_1_atHL : Encoding.Statement .res_1_atHL := fun _ => ⟨rfl, rfl⟩

theorem Encoding.res_1_a : Encoding.Statement .res_1_a := fun _ => ⟨rfl, rfl⟩

theorem Encoding.res_2_b : Encoding.Statement .res_2_b := fun _ => ⟨rfl, rfl⟩

theorem Encoding.res_2_c : Encoding.Statement .res_2_c := fun _ => ⟨rfl, rfl⟩

theorem Encoding.res_2_d : Encoding.Statement .res_2_d := fun _ => ⟨rfl, rfl⟩

theorem Encoding.res_2_e : Encoding.Statement .res_2_e := fun _ => ⟨rfl, rfl⟩

theorem Encoding.res_2_h : Encoding.Statement .res_2_h := fun _ => ⟨rfl, rfl⟩

theorem Encoding.res_2_l : Encoding.Statement .res_2_l := fun _ => ⟨rfl, rfl⟩

theorem Encoding.res_2_atHL : Encoding.Statement .res_2_atHL := fun _ => ⟨rfl, rfl⟩

theorem Encoding.res_2_a : Encoding.Statement .res_2_a := fun _ => ⟨rfl, rfl⟩

theorem Encoding.res_3_b : Encoding.Statement .res_3_b := fun _ => ⟨rfl, rfl⟩

theorem Encoding.res_3_c : Encoding.Statement .res_3_c := fun _ => ⟨rfl, rfl⟩

theorem Encoding.res_3_d : Encoding.Statement .res_3_d := fun _ => ⟨rfl, rfl⟩

theorem Encoding.res_3_e : Encoding.Statement .res_3_e := fun _ => ⟨rfl, rfl⟩

theorem Encoding.res_3_h : Encoding.Statement .res_3_h := fun _ => ⟨rfl, rfl⟩

theorem Encoding.res_3_l : Encoding.Statement .res_3_l := fun _ => ⟨rfl, rfl⟩

theorem Encoding.res_3_atHL : Encoding.Statement .res_3_atHL := fun _ => ⟨rfl, rfl⟩

theorem Encoding.res_3_a : Encoding.Statement .res_3_a := fun _ => ⟨rfl, rfl⟩

theorem Encoding.res_4_b : Encoding.Statement .res_4_b := fun _ => ⟨rfl, rfl⟩

theorem Encoding.res_4_c : Encoding.Statement .res_4_c := fun _ => ⟨rfl, rfl⟩

theorem Encoding.res_4_d : Encoding.Statement .res_4_d := fun _ => ⟨rfl, rfl⟩

theorem Encoding.res_4_e : Encoding.Statement .res_4_e := fun _ => ⟨rfl, rfl⟩

theorem Encoding.res_4_h : Encoding.Statement .res_4_h := fun _ => ⟨rfl, rfl⟩

theorem Encoding.res_4_l : Encoding.Statement .res_4_l := fun _ => ⟨rfl, rfl⟩

theorem Encoding.res_4_atHL : Encoding.Statement .res_4_atHL := fun _ => ⟨rfl, rfl⟩

theorem Encoding.res_4_a : Encoding.Statement .res_4_a := fun _ => ⟨rfl, rfl⟩

theorem Encoding.res_5_b : Encoding.Statement .res_5_b := fun _ => ⟨rfl, rfl⟩

theorem Encoding.res_5_c : Encoding.Statement .res_5_c := fun _ => ⟨rfl, rfl⟩

theorem Encoding.res_5_d : Encoding.Statement .res_5_d := fun _ => ⟨rfl, rfl⟩

theorem Encoding.res_5_e : Encoding.Statement .res_5_e := fun _ => ⟨rfl, rfl⟩

theorem Encoding.res_5_h : Encoding.Statement .res_5_h := fun _ => ⟨rfl, rfl⟩

theorem Encoding.res_5_l : Encoding.Statement .res_5_l := fun _ => ⟨rfl, rfl⟩

theorem Encoding.res_5_atHL : Encoding.Statement .res_5_atHL := fun _ => ⟨rfl, rfl⟩

theorem Encoding.res_5_a : Encoding.Statement .res_5_a := fun _ => ⟨rfl, rfl⟩

theorem Encoding.res_6_b : Encoding.Statement .res_6_b := fun _ => ⟨rfl, rfl⟩

theorem Encoding.res_6_c : Encoding.Statement .res_6_c := fun _ => ⟨rfl, rfl⟩

theorem Encoding.res_6_d : Encoding.Statement .res_6_d := fun _ => ⟨rfl, rfl⟩

theorem Encoding.res_6_e : Encoding.Statement .res_6_e := fun _ => ⟨rfl, rfl⟩

theorem Encoding.res_6_h : Encoding.Statement .res_6_h := fun _ => ⟨rfl, rfl⟩

theorem Encoding.res_6_l : Encoding.Statement .res_6_l := fun _ => ⟨rfl, rfl⟩

theorem Encoding.res_6_atHL : Encoding.Statement .res_6_atHL := fun _ => ⟨rfl, rfl⟩

theorem Encoding.res_6_a : Encoding.Statement .res_6_a := fun _ => ⟨rfl, rfl⟩

theorem Encoding.res_7_b : Encoding.Statement .res_7_b := fun _ => ⟨rfl, rfl⟩

theorem Encoding.res_7_c : Encoding.Statement .res_7_c := fun _ => ⟨rfl, rfl⟩

theorem Encoding.res_7_d : Encoding.Statement .res_7_d := fun _ => ⟨rfl, rfl⟩

theorem Encoding.res_7_e : Encoding.Statement .res_7_e := fun _ => ⟨rfl, rfl⟩

theorem Encoding.res_7_h : Encoding.Statement .res_7_h := fun _ => ⟨rfl, rfl⟩

theorem Encoding.res_7_l : Encoding.Statement .res_7_l := fun _ => ⟨rfl, rfl⟩

theorem Encoding.res_7_atHL : Encoding.Statement .res_7_atHL := fun _ => ⟨rfl, rfl⟩

theorem Encoding.res_7_a : Encoding.Statement .res_7_a := fun _ => ⟨rfl, rfl⟩

theorem Encoding.set_0_b : Encoding.Statement .set_0_b := fun _ => ⟨rfl, rfl⟩

theorem Encoding.set_0_c : Encoding.Statement .set_0_c := fun _ => ⟨rfl, rfl⟩

theorem Encoding.set_0_d : Encoding.Statement .set_0_d := fun _ => ⟨rfl, rfl⟩

theorem Encoding.set_0_e : Encoding.Statement .set_0_e := fun _ => ⟨rfl, rfl⟩

theorem Encoding.set_0_h : Encoding.Statement .set_0_h := fun _ => ⟨rfl, rfl⟩

theorem Encoding.set_0_l : Encoding.Statement .set_0_l := fun _ => ⟨rfl, rfl⟩

theorem Encoding.set_0_atHL : Encoding.Statement .set_0_atHL := fun _ => ⟨rfl, rfl⟩

theorem Encoding.set_0_a : Encoding.Statement .set_0_a := fun _ => ⟨rfl, rfl⟩

theorem Encoding.set_1_b : Encoding.Statement .set_1_b := fun _ => ⟨rfl, rfl⟩

theorem Encoding.set_1_c : Encoding.Statement .set_1_c := fun _ => ⟨rfl, rfl⟩

theorem Encoding.set_1_d : Encoding.Statement .set_1_d := fun _ => ⟨rfl, rfl⟩

theorem Encoding.set_1_e : Encoding.Statement .set_1_e := fun _ => ⟨rfl, rfl⟩

theorem Encoding.set_1_h : Encoding.Statement .set_1_h := fun _ => ⟨rfl, rfl⟩

theorem Encoding.set_1_l : Encoding.Statement .set_1_l := fun _ => ⟨rfl, rfl⟩

theorem Encoding.set_1_atHL : Encoding.Statement .set_1_atHL := fun _ => ⟨rfl, rfl⟩

theorem Encoding.set_1_a : Encoding.Statement .set_1_a := fun _ => ⟨rfl, rfl⟩

theorem Encoding.set_2_b : Encoding.Statement .set_2_b := fun _ => ⟨rfl, rfl⟩

theorem Encoding.set_2_c : Encoding.Statement .set_2_c := fun _ => ⟨rfl, rfl⟩

theorem Encoding.set_2_d : Encoding.Statement .set_2_d := fun _ => ⟨rfl, rfl⟩

theorem Encoding.set_2_e : Encoding.Statement .set_2_e := fun _ => ⟨rfl, rfl⟩

theorem Encoding.set_2_h : Encoding.Statement .set_2_h := fun _ => ⟨rfl, rfl⟩

theorem Encoding.set_2_l : Encoding.Statement .set_2_l := fun _ => ⟨rfl, rfl⟩

theorem Encoding.set_2_atHL : Encoding.Statement .set_2_atHL := fun _ => ⟨rfl, rfl⟩

theorem Encoding.set_2_a : Encoding.Statement .set_2_a := fun _ => ⟨rfl, rfl⟩

theorem Encoding.set_3_b : Encoding.Statement .set_3_b := fun _ => ⟨rfl, rfl⟩

theorem Encoding.set_3_c : Encoding.Statement .set_3_c := fun _ => ⟨rfl, rfl⟩

theorem Encoding.set_3_d : Encoding.Statement .set_3_d := fun _ => ⟨rfl, rfl⟩

theorem Encoding.set_3_e : Encoding.Statement .set_3_e := fun _ => ⟨rfl, rfl⟩

theorem Encoding.set_3_h : Encoding.Statement .set_3_h := fun _ => ⟨rfl, rfl⟩

theorem Encoding.set_3_l : Encoding.Statement .set_3_l := fun _ => ⟨rfl, rfl⟩

theorem Encoding.set_3_atHL : Encoding.Statement .set_3_atHL := fun _ => ⟨rfl, rfl⟩

theorem Encoding.set_3_a : Encoding.Statement .set_3_a := fun _ => ⟨rfl, rfl⟩

theorem Encoding.set_4_b : Encoding.Statement .set_4_b := fun _ => ⟨rfl, rfl⟩

theorem Encoding.set_4_c : Encoding.Statement .set_4_c := fun _ => ⟨rfl, rfl⟩

theorem Encoding.set_4_d : Encoding.Statement .set_4_d := fun _ => ⟨rfl, rfl⟩

theorem Encoding.set_4_e : Encoding.Statement .set_4_e := fun _ => ⟨rfl, rfl⟩

theorem Encoding.set_4_h : Encoding.Statement .set_4_h := fun _ => ⟨rfl, rfl⟩

theorem Encoding.set_4_l : Encoding.Statement .set_4_l := fun _ => ⟨rfl, rfl⟩

theorem Encoding.set_4_atHL : Encoding.Statement .set_4_atHL := fun _ => ⟨rfl, rfl⟩

theorem Encoding.set_4_a : Encoding.Statement .set_4_a := fun _ => ⟨rfl, rfl⟩

theorem Encoding.set_5_b : Encoding.Statement .set_5_b := fun _ => ⟨rfl, rfl⟩

theorem Encoding.set_5_c : Encoding.Statement .set_5_c := fun _ => ⟨rfl, rfl⟩

theorem Encoding.set_5_d : Encoding.Statement .set_5_d := fun _ => ⟨rfl, rfl⟩

theorem Encoding.set_5_e : Encoding.Statement .set_5_e := fun _ => ⟨rfl, rfl⟩

theorem Encoding.set_5_h : Encoding.Statement .set_5_h := fun _ => ⟨rfl, rfl⟩

theorem Encoding.set_5_l : Encoding.Statement .set_5_l := fun _ => ⟨rfl, rfl⟩

theorem Encoding.set_5_atHL : Encoding.Statement .set_5_atHL := fun _ => ⟨rfl, rfl⟩

theorem Encoding.set_5_a : Encoding.Statement .set_5_a := fun _ => ⟨rfl, rfl⟩

theorem Encoding.set_6_b : Encoding.Statement .set_6_b := fun _ => ⟨rfl, rfl⟩

theorem Encoding.set_6_c : Encoding.Statement .set_6_c := fun _ => ⟨rfl, rfl⟩

theorem Encoding.set_6_d : Encoding.Statement .set_6_d := fun _ => ⟨rfl, rfl⟩

theorem Encoding.set_6_e : Encoding.Statement .set_6_e := fun _ => ⟨rfl, rfl⟩

theorem Encoding.set_6_h : Encoding.Statement .set_6_h := fun _ => ⟨rfl, rfl⟩

theorem Encoding.set_6_l : Encoding.Statement .set_6_l := fun _ => ⟨rfl, rfl⟩

theorem Encoding.set_6_atHL : Encoding.Statement .set_6_atHL := fun _ => ⟨rfl, rfl⟩

theorem Encoding.set_6_a : Encoding.Statement .set_6_a := fun _ => ⟨rfl, rfl⟩

theorem Encoding.set_7_b : Encoding.Statement .set_7_b := fun _ => ⟨rfl, rfl⟩

theorem Encoding.set_7_c : Encoding.Statement .set_7_c := fun _ => ⟨rfl, rfl⟩

theorem Encoding.set_7_d : Encoding.Statement .set_7_d := fun _ => ⟨rfl, rfl⟩

theorem Encoding.set_7_e : Encoding.Statement .set_7_e := fun _ => ⟨rfl, rfl⟩

theorem Encoding.set_7_h : Encoding.Statement .set_7_h := fun _ => ⟨rfl, rfl⟩

theorem Encoding.set_7_l : Encoding.Statement .set_7_l := fun _ => ⟨rfl, rfl⟩

theorem Encoding.set_7_atHL : Encoding.Statement .set_7_atHL := fun _ => ⟨rfl, rfl⟩

theorem Encoding.set_7_a : Encoding.Statement .set_7_a := fun _ => ⟨rfl, rfl⟩

end Sys2Proof.Laws
end

