-- ==== Sys2Proof/Laws/Step.lean ====
section
/-! SUPPORT. What a fetch and a step can do, said once: the four cases of a fetch and the four cases of a step that answers a
next state. -/

namespace Sys2Proof.Machine

/-! ### Fetch (R190) -/

theorem State.fetch_reserved {s : State} (h : s.readVal s.pc ∈ reservedOpcodes) :
    s.fetch = (decodeBytes (s.readVal s.pc) 0 0, s.readEff s.pc) := by
  simp only [State.fetch, if_pos h]

theorem State.fetch_one {s : State} (h : s.readVal s.pc ∉ reservedOpcodes) (hl : opLength (s.readVal s.pc) = .one) :
    s.fetch = (decodeBytes (s.readVal s.pc) 0 0, s.fetchedOpcode) := by
  simp only [State.fetch, if_neg h, hl]

theorem State.fetch_two {s : State} (h : s.readVal s.pc ∉ reservedOpcodes) (hl : opLength (s.readVal s.pc) = .two) :
    s.fetch = (decodeBytes (s.readVal s.pc) (s.fetchedOpcode.readVal s.fetchedOpcode.pc) 0,
      s.fetchedOpcode.fetched) := by
  simp only [State.fetch, if_neg h, hl]

theorem State.fetch_three {s : State} (h : s.readVal s.pc ∉ reservedOpcodes)
    (hl : opLength (s.readVal s.pc) = .three) :
    s.fetch = (decodeBytes (s.readVal s.pc) (s.fetchedOpcode.readVal s.fetchedOpcode.pc)
        (s.fetchedOpcode.fetched.readVal s.fetchedOpcode.fetched.pc),
      s.fetchedOpcode.fetched.fetched) := by
  simp only [State.fetch, if_neg h, hl]

/-- The state a fetch leaves is one of four. -/
theorem State.fetch_state (s : State) :
    (s.readVal s.pc ∈ reservedOpcodes ∧ s.fetch.2 = s.readEff s.pc) ∨
      (s.readVal s.pc ∉ reservedOpcodes ∧
        (s.fetch.2 = s.fetchedOpcode ∨ s.fetch.2 = s.fetchedOpcode.fetched ∨
          s.fetch.2 = s.fetchedOpcode.fetched.fetched)) := by
  by_cases h : s.readVal s.pc ∈ reservedOpcodes
  · exact .inl ⟨h, by rw [State.fetch_reserved h]⟩
  · refine .inr ⟨h, ?_⟩
    cases hl : opLength (s.readVal s.pc) with
    | one => exact .inl (by rw [State.fetch_one h hl])
    | two => exact .inr (.inl (by rw [State.fetch_two h hl]))
    | three => exact .inr (.inr (by rw [State.fetch_three h hl]))

/-- In mode HaltBug the opcode fetch leaves PC and makes the mode Running (R190). -/
theorem State.fetchedOpcode_haltBug {s : State} (h : s.mode = .haltBug) :
    s.fetchedOpcode = { s.readEff s.pc with mode := .running } := by
  simp only [State.fetchedOpcode, h]

theorem State.fetchedOpcode_other {s : State} (h : s.mode ≠ .haltBug) : s.fetchedOpcode = s.fetched := by
  unfold State.fetchedOpcode
  split
  next h' => exact absurd h' h
  next => rfl

/-- A fetch is made of bus reads, PC, and the end of the halt bug. -/
theorem Ordinary.fetched {s t : State} (h : Ordinary s t) : Ordinary s t.fetched := (h.read t.pc).withPC _

/-! ### Wake (R430) -/

theorem State.wake_eq_self {s : State} (h : ¬ (s.mode = .halted ∧ s.ifr ≠ 0)) : s.wake = s := if_neg h

theorem State.wake_eq_running {s : State} (h : s.mode = .halted ∧ s.ifr ≠ 0) :
    s.wake = { s with mode := .running } := if_pos h

/-! ### Rollback (R405) -/

/-- A bus read does not look at the mode. -/
theorem State.readEff_withMode (x : Word) (m : Mode) (s : State) :
    ({ s with mode := m } : State).readEff x = { s.readEff x with mode := m } := by
  by_cases h : s.servedByPeriph x = true
  · have h' : ({ s with mode := m } : State).servedByPeriph x = true := h
    simp only [State.readEff, if_pos h, if_pos h', State.countDraw]
    split <;> rfl
  · have h' : ¬ ({ s with mode := m } : State).servedByPeriph x = true := h
    simp only [State.readEff, if_neg h, if_neg h']

/-- Rolling back the meaning of a reserved byte leaves the state before the step, its wake undone, with the fault
and the draw of the fetch. -/
theorem State.rolledBack_raise (op : Byte) (s : State) :
    ((s.wake.readEff s.pc).raiseInvalidOpcode op).rolledBack s =
      { s.readEff s.pc with fault := some { op := op, pc := s.pc } } := by
  have h : (s.wake.readEff s.pc).draws = (s.readEff s.pc).draws := by
    unfold State.wake
    split
    · rw [State.readEff_withMode]
    · rfl
  simp only [State.rolledBack, State.raiseInvalidOpcode, State.readEff_pc, State.wake_pc, h]
  unfold State.readEff State.countDraw
  (repeat' split) <;> rfl

/-! ### The step (R400) -/

theorem step_faulted {s : State} {x : InvalidOpcode} (h : s.fault = some x) :
    step s = .fault (.invalidOpcode x.op x.pc) := by
  simp only [step, unitOfWork, h]

theorem step_stopped {s : State} (hf : s.fault = none) (h : s.mode = .stopped) :
    step s = .next (s.tick s.cfg.stopTick) := by
  simp only [step, unitOfWork, hf, if_pos h]

theorem step_awake {s : State} (hf : s.fault = none) (h : s.mode ≠ .stopped) : step s = awakeUnit s s.wake := by
  simp only [step, unitOfWork, hf, if_neg h]

theorem awakeUnit_dispatch {before s : State} {k : Fin 5} (h : s.takes = some k) :
    awakeUnit before s = .next (s.dispatch k) := by
  simp only [awakeUnit, h]

theorem awakeUnit_halted {before s : State} (h : s.takes = none) (hm : s.mode = .halted) :
    awakeUnit before s = .next (s.tick s.cfg.haltTick) := by
  simp only [awakeUnit, h, if_pos hm]

theorem awakeUnit_execute {before s : State} (h : s.takes = none) (hm : s.mode ≠ .halted) :
    awakeUnit before s = finishUnit before (exec s.fetch.1 s.fetch.2) := by
  simp only [awakeUnit, h, if_neg hm, executeOne]

/-- Every step that answers a next state is a stopped tick, a dispatch, a halted tick or an instruction, and the last
commits or, where it recorded a fault, is rolled back. -/
theorem step_cases {s t : State} (h : step s = .next t) :
    s.fault = none ∧
      ((s.mode = .stopped ∧ t = s.tick s.cfg.stopTick) ∨
        (s.mode ≠ .stopped ∧ ∃ k, s.wake.takes = some k ∧ t = s.wake.dispatch k) ∨
        (s.mode ≠ .stopped ∧ s.wake.takes = none ∧ s.wake.mode = .halted ∧ t = s.wake.tick s.cfg.haltTick) ∨
        (s.mode ≠ .stopped ∧ s.wake.takes = none ∧ s.wake.mode ≠ .halted ∧
          ∃ u, exec s.wake.fetch.1 s.wake.fetch.2 = .next u ∧
            ((u.fault ≠ none ∧ t = u.rolledBack s) ∨ (u.fault = none ∧ t = u.commitEi s.eiPending)))) := by
  cases hf : s.fault with
  | some x => rw [step_faulted hf] at h; cases h
  | none =>
    refine ⟨rfl, ?_⟩
    by_cases hm : s.mode = .stopped
    · rw [step_stopped hf hm] at h; cases h
      exact .inl ⟨hm, rfl⟩
    · rw [step_awake hf hm] at h
      cases ht : s.wake.takes with
      | some k =>
        rw [awakeUnit_dispatch ht] at h; cases h
        exact .inr (.inl ⟨hm, k, rfl, rfl⟩)
      | none =>
        by_cases hh : s.wake.mode = .halted
        · rw [awakeUnit_halted ht hh] at h; cases h
          exact .inr (.inr (.inl ⟨hm, rfl, hh, by rw [State.wake_cfg]⟩))
        · rw [awakeUnit_execute ht hh] at h
          refine .inr (.inr (.inr ⟨hm, rfl, hh, ?_⟩))
          cases hu : exec s.wake.fetch.1 s.wake.fetch.2 with
          | next u =>
            rw [hu] at h
            refine ⟨u, rfl, ?_⟩
            cases hx : u.fault with
            | some x =>
              simp only [finishUnit, hx] at h; cases h
              exact .inl ⟨by simp, rfl⟩
            | none =>
              simp only [finishUnit, hx] at h; cases h
              exact .inr ⟨rfl, rfl⟩
          | fault r => rw [hu] at h; cases h
          | refused r => rw [hu] at h; cases h

end Sys2Proof.Machine
end

