-- ==== Sys2Proof/Tests/Slice0.lean ====
section
/-! SUPPORT. Tests. The words of the decode tests are the match column of spec/opcode_table.json; the expected results of
the step tests are the rows of spec/95_test_vectors.md, each named after its row; a test named test_witness_X gives concrete
inputs that meet the hypotheses of Obligations.X, at the edges of each clause. -/

namespace Sys2Proof.Tests

open Sys2Proof Sys2Proof.Machine

/-! ### Well-formed instructions -/

theorem test_wellFormed_refuses_other_bytes_as_invalid :
    ([0x00, 0xCB, 0xD2, 0xD4, 0xEA, 0xEE, 0xF3, 0xFE] : List Byte).all
      (fun op => (Instr.invalid op).wellFormed == false) = true := by decide

theorem test_wellFormed_accepts_reserved_bytes :
    ([0xD3, 0xDB, 0xDD, 0xE3, 0xE4, 0xEB, 0xEC, 0xED, 0xF4, 0xFC, 0xFD] : List Byte).all
      (fun op => (Instr.invalid op).wellFormed) = true := by decide

theorem test_wellFormed_accepts_operands :
    Instr.wellFormed (.ld_sp_nn 0xFFFF) = true ∧ Instr.wellFormed (.stop 0xD3) = true := by decide

/-! ### Decoding: every row of the table, with operand bytes 0x34 0x12 -/

/-- The bytes decode to the instruction, with nothing left, and encode gives them back. -/
def decodesTo (p : List Byte × Instr) : Bool := decide (decode p.1 = .ok (p.2, [])) && decide (encode p.2 = p.1)

theorem test_decode_row_0x : ([
      ([0x00], .nop), ([0x01, 0x34, 0x12], .ld_bc_nn 0x1234), ([0x02], .ld_atBC_a), ([0x03], .inc_bc),
      ([0x04], .inc_b), ([0x05], .dec_b), ([0x06, 0x34], .ld_b_n 0x34), ([0x07], .rlca),
      ([0x08, 0x34, 0x12], .ld_atNN_sp 0x1234), ([0x09], .add_hl_bc), ([0x0A], .ld_a_atBC), ([0x0B], .dec_bc),
      ([0x0C], .inc_c), ([0x0D], .dec_c), ([0x0E, 0x34], .ld_c_n 0x34), ([0x0F], .rrca)] : List (List Byte × Instr)).all decodesTo = true := by decide

theorem test_decode_row_1x : ([
      ([0x10, 0x34], .stop 0x34), ([0x11, 0x34, 0x12], .ld_de_nn 0x1234), ([0x12], .ld_atDE_a), ([0x13], .inc_de),
      ([0x14], .inc_d), ([0x15], .dec_d), ([0x16, 0x34], .ld_d_n 0x34), ([0x17], .rla),
      ([0x18, 0x34], .jr_e 0x34), ([0x19], .add_hl_de), ([0x1A], .ld_a_atDE), ([0x1B], .dec_de),
      ([0x1C], .inc_e), ([0x1D], .dec_e), ([0x1E, 0x34], .ld_e_n 0x34), ([0x1F], .rra)] : List (List Byte × Instr)).all decodesTo = true := by decide

theorem test_decode_row_2x : ([
      ([0x20, 0x34], .jr_nz_e 0x34), ([0x21, 0x34, 0x12], .ld_hl_nn 0x1234), ([0x22], .ld_atHLinc_a), ([0x23], .inc_hl),
      ([0x24], .inc_h), ([0x25], .dec_h), ([0x26, 0x34], .ld_h_n 0x34), ([0x27], .daa),
      ([0x28, 0x34], .jr_z_e 0x34), ([0x29], .add_hl_hl), ([0x2A], .ld_a_atHLinc), ([0x2B], .dec_hl),
      ([0x2C], .inc_l), ([0x2D], .dec_l), ([0x2E, 0x34], .ld_l_n 0x34), ([0x2F], .cpl)] : List (List Byte × Instr)).all decodesTo = true := by decide

theorem test_decode_row_3x : ([
      ([0x30, 0x34], .jr_nc_e 0x34), ([0x31, 0x34, 0x12], .ld_sp_nn 0x1234), ([0x32], .ld_atHLdec_a), ([0x33], .inc_sp),
      ([0x34], .inc_atHL), ([0x35], .dec_atHL), ([0x36, 0x34], .ld_atHL_n 0x34), ([0x37], .scf),
      ([0x38, 0x34], .jr_c_e 0x34), ([0x39], .add_hl_sp), ([0x3A], .ld_a_atHLdec), ([0x3B], .dec_sp),
      ([0x3C], .inc_a), ([0x3D], .dec_a), ([0x3E, 0x34], .ld_a_n 0x34), ([0x3F], .ccf)] : List (List Byte × Instr)).all decodesTo = true := by decide

theorem test_decode_row_4x : ([
      ([0x40], .ld_b_b), ([0x41], .ld_b_c), ([0x42], .ld_b_d), ([0x43], .ld_b_e),
      ([0x44], .ld_b_h), ([0x45], .ld_b_l), ([0x46], .ld_b_atHL), ([0x47], .ld_b_a),
      ([0x48], .ld_c_b), ([0x49], .ld_c_c), ([0x4A], .ld_c_d), ([0x4B], .ld_c_e),
      ([0x4C], .ld_c_h), ([0x4D], .ld_c_l), ([0x4E], .ld_c_atHL), ([0x4F], .ld_c_a)] : List (List Byte × Instr)).all decodesTo = true := by decide

theorem test_decode_row_5x : ([
      ([0x50], .ld_d_b), ([0x51], .ld_d_c), ([0x52], .ld_d_d), ([0x53], .ld_d_e),
      ([0x54], .ld_d_h), ([0x55], .ld_d_l), ([0x56], .ld_d_atHL), ([0x57], .ld_d_a),
      ([0x58], .ld_e_b), ([0x59], .ld_e_c), ([0x5A], .ld_e_d), ([0x5B], .ld_e_e),
      ([0x5C], .ld_e_h), ([0x5D], .ld_e_l), ([0x5E], .ld_e_atHL), ([0x5F], .ld_e_a)] : List (List Byte × Instr)).all decodesTo = true := by decide

theorem test_decode_row_6x : ([
      ([0x60], .ld_h_b), ([0x61], .ld_h_c), ([0x62], .ld_h_d), ([0x63], .ld_h_e),
      ([0x64], .ld_h_h), ([0x65], .ld_h_l), ([0x66], .ld_h_atHL), ([0x67], .ld_h_a),
      ([0x68], .ld_l_b), ([0x69], .ld_l_c), ([0x6A], .ld_l_d), ([0x6B], .ld_l_e),
      ([0x6C], .ld_l_h), ([0x6D], .ld_l_l), ([0x6E], .ld_l_atHL), ([0x6F], .ld_l_a)] : List (List Byte × Instr)).all decodesTo = true := by decide

theorem test_decode_row_7x : ([
      ([0x70], .ld_atHL_b), ([0x71], .ld_atHL_c), ([0x72], .ld_atHL_d), ([0x73], .ld_atHL_e),
      ([0x74], .ld_atHL_h), ([0x75], .ld_atHL_l), ([0x76], .halt), ([0x77], .ld_atHL_a),
      ([0x78], .ld_a_b), ([0x79], .ld_a_c), ([0x7A], .ld_a_d), ([0x7B], .ld_a_e),
      ([0x7C], .ld_a_h), ([0x7D], .ld_a_l), ([0x7E], .ld_a_atHL), ([0x7F], .ld_a_a)] : List (List Byte × Instr)).all decodesTo = true := by decide

theorem test_decode_row_8x : ([
      ([0x80], .add_a_b), ([0x81], .add_a_c), ([0x82], .add_a_d), ([0x83], .add_a_e),
      ([0x84], .add_a_h), ([0x85], .add_a_l), ([0x86], .add_a_atHL), ([0x87], .add_a_a),
      ([0x88], .adc_a_b), ([0x89], .adc_a_c), ([0x8A], .adc_a_d), ([0x8B], .adc_a_e),
      ([0x8C], .adc_a_h), ([0x8D], .adc_a_l), ([0x8E], .adc_a_atHL), ([0x8F], .adc_a_a)] : List (List Byte × Instr)).all decodesTo = true := by decide

theorem test_decode_row_9x : ([
      ([0x90], .sub_b), ([0x91], .sub_c), ([0x92], .sub_d), ([0x93], .sub_e),
      ([0x94], .sub_h), ([0x95], .sub_l), ([0x96], .sub_atHL), ([0x97], .sub_a),
      ([0x98], .sbc_a_b), ([0x99], .sbc_a_c), ([0x9A], .sbc_a_d), ([0x9B], .sbc_a_e),
      ([0x9C], .sbc_a_h), ([0x9D], .sbc_a_l), ([0x9E], .sbc_a_atHL), ([0x9F], .sbc_a_a)] : List (List Byte × Instr)).all decodesTo = true := by decide

theorem test_decode_row_Ax : ([
      ([0xA0], .and_b), ([0xA1], .and_c), ([0xA2], .and_d), ([0xA3], .and_e),
      ([0xA4], .and_h), ([0xA5], .and_l), ([0xA6], .and_atHL), ([0xA7], .and_a),
      ([0xA8], .xor_b), ([0xA9], .xor_c), ([0xAA], .xor_d), ([0xAB], .xor_e),
      ([0xAC], .xor_h), ([0xAD], .xor_l), ([0xAE], .xor_atHL), ([0xAF], .xor_a)] : List (List Byte × Instr)).all decodesTo = true := by decide

theorem test_decode_row_Bx : ([
      ([0xB0], .or_b), ([0xB1], .or_c), ([0xB2], .or_d), ([0xB3], .or_e),
      ([0xB4], .or_h), ([0xB5], .or_l), ([0xB6], .or_atHL), ([0xB7], .or_a),
      ([0xB8], .cp_b), ([0xB9], .cp_c), ([0xBA], .cp_d), ([0xBB], .cp_e),
      ([0xBC], .cp_h), ([0xBD], .cp_l), ([0xBE], .cp_atHL), ([0xBF], .cp_a)] : List (List Byte × Instr)).all decodesTo = true := by decide

theorem test_decode_row_Cx : ([
      ([0xC0], .ret_nz), ([0xC1], .pop_bc), ([0xC2, 0x34, 0x12], .jp_nz_nn 0x1234), ([0xC3, 0x34, 0x12], .jp_nn 0x1234),
      ([0xC4, 0x34, 0x12], .call_nz_nn 0x1234), ([0xC5], .push_bc), ([0xC6, 0x34], .add_a_n 0x34), ([0xC7], .rst_0x00),
      ([0xC8], .ret_z), ([0xC9], .ret), ([0xCA, 0x34, 0x12], .jp_z_nn 0x1234), ([0xCC, 0x34, 0x12], .call_z_nn 0x1234),
      ([0xCD, 0x34, 0x12], .call_nn 0x1234), ([0xCE, 0x34], .adc_a_n 0x34), ([0xCF], .rst_0x08)] : List (List Byte × Instr)).all decodesTo = true := by decide

theorem test_decode_row_Dx : ([
      ([0xD0], .ret_nc), ([0xD1], .pop_de), ([0xD2, 0x34, 0x12], .jp_nc_nn 0x1234), ([0xD3], .invalid 0xD3),
      ([0xD4, 0x34, 0x12], .call_nc_nn 0x1234), ([0xD5], .push_de), ([0xD6, 0x34], .sub_n 0x34), ([0xD7], .rst_0x10),
      ([0xD8], .ret_c), ([0xD9], .reti), ([0xDA, 0x34, 0x12], .jp_c_nn 0x1234), ([0xDB], .invalid 0xDB),
      ([0xDC, 0x34, 0x12], .call_c_nn 0x1234), ([0xDD], .invalid 0xDD), ([0xDE, 0x34], .sbc_a_n 0x34), ([0xDF], .rst_0x18)] : List (List Byte × Instr)).all decodesTo = true := by decide

theorem test_decode_row_Ex : ([
      ([0xE0, 0x34], .ldh_atN_a 0x34), ([0xE1], .pop_hl), ([0xE2], .ldh_atC_a), ([0xE3], .invalid 0xE3),
      ([0xE4], .invalid 0xE4), ([0xE5], .push_hl), ([0xE6, 0x34], .and_n 0x34), ([0xE7], .rst_0x20),
      ([0xE8, 0x34], .add_sp_e 0x34), ([0xE9], .jp_hl), ([0xEA, 0x34, 0x12], .ld_atNN_a 0x1234), ([0xEB], .invalid 0xEB),
      ([0xEC], .invalid 0xEC), ([0xED], .invalid 0xED), ([0xEE, 0x34], .xor_n 0x34), ([0xEF], .rst_0x28)] : List (List Byte × Instr)).all decodesTo = true := by decide

theorem test_decode_row_Fx : ([
      ([0xF0, 0x34], .ldh_a_atN 0x34), ([0xF1], .pop_af), ([0xF2], .ldh_a_atC), ([0xF3], .di),
      ([0xF4], .invalid 0xF4), ([0xF5], .push_af), ([0xF6, 0x34], .or_n 0x34), ([0xF7], .rst_0x30),
      ([0xF8, 0x34], .ld_hl_spPlusE 0x34), ([0xF9], .ld_sp_hl), ([0xFA, 0x34, 0x12], .ld_a_atNN 0x1234), ([0xFB], .ei),
      ([0xFC], .invalid 0xFC), ([0xFD], .invalid 0xFD), ([0xFE, 0x34], .cp_n 0x34), ([0xFF], .rst_0x38)] : List (List Byte × Instr)).all decodesTo = true := by decide

theorem test_decode_cb_0x : ([
      ([0xCB, 0x00], .rlc_b), ([0xCB, 0x01], .rlc_c), ([0xCB, 0x02], .rlc_d), ([0xCB, 0x03], .rlc_e),
      ([0xCB, 0x04], .rlc_h), ([0xCB, 0x05], .rlc_l), ([0xCB, 0x06], .rlc_atHL), ([0xCB, 0x07], .rlc_a),
      ([0xCB, 0x08], .rrc_b), ([0xCB, 0x09], .rrc_c), ([0xCB, 0x0A], .rrc_d), ([0xCB, 0x0B], .rrc_e),
      ([0xCB, 0x0C], .rrc_h), ([0xCB, 0x0D], .rrc_l), ([0xCB, 0x0E], .rrc_atHL), ([0xCB, 0x0F], .rrc_a)] : List (List Byte × Instr)).all decodesTo = true := by decide

theorem test_decode_cb_1x : ([
      ([0xCB, 0x10], .rl_b), ([0xCB, 0x11], .rl_c), ([0xCB, 0x12], .rl_d), ([0xCB, 0x13], .rl_e),
      ([0xCB, 0x14], .rl_h), ([0xCB, 0x15], .rl_l), ([0xCB, 0x16], .rl_atHL), ([0xCB, 0x17], .rl_a),
      ([0xCB, 0x18], .rr_b), ([0xCB, 0x19], .rr_c), ([0xCB, 0x1A], .rr_d), ([0xCB, 0x1B], .rr_e),
      ([0xCB, 0x1C], .rr_h), ([0xCB, 0x1D], .rr_l), ([0xCB, 0x1E], .rr_atHL), ([0xCB, 0x1F], .rr_a)] : List (List Byte × Instr)).all decodesTo = true := by decide

theorem test_decode_cb_2x : ([
      ([0xCB, 0x20], .sla_b), ([0xCB, 0x21], .sla_c), ([0xCB, 0x22], .sla_d), ([0xCB, 0x23], .sla_e),
      ([0xCB, 0x24], .sla_h), ([0xCB, 0x25], .sla_l), ([0xCB, 0x26], .sla_atHL), ([0xCB, 0x27], .sla_a),
      ([0xCB, 0x28], .sra_b), ([0xCB, 0x29], .sra_c), ([0xCB, 0x2A], .sra_d), ([0xCB, 0x2B], .sra_e),
      ([0xCB, 0x2C], .sra_h), ([0xCB, 0x2D], .sra_l), ([0xCB, 0x2E], .sra_atHL), ([0xCB, 0x2F], .sra_a)] : List (List Byte × Instr)).all decodesTo = true := by decide

theorem test_decode_cb_3x : ([
      ([0xCB, 0x30], .swap_b), ([0xCB, 0x31], .swap_c), ([0xCB, 0x32], .swap_d), ([0xCB, 0x33], .swap_e),
      ([0xCB, 0x34], .swap_h), ([0xCB, 0x35], .swap_l), ([0xCB, 0x36], .swap_atHL), ([0xCB, 0x37], .swap_a),
      ([0xCB, 0x38], .srl_b), ([0xCB, 0x39], .srl_c), ([0xCB, 0x3A], .srl_d), ([0xCB, 0x3B], .srl_e),
      ([0xCB, 0x3C], .srl_h), ([0xCB, 0x3D], .srl_l), ([0xCB, 0x3E], .srl_atHL), ([0xCB, 0x3F], .srl_a)] : List (List Byte × Instr)).all decodesTo = true := by decide

theorem test_decode_cb_4x : ([
      ([0xCB, 0x40], .bit_0_b), ([0xCB, 0x41], .bit_0_c), ([0xCB, 0x42], .bit_0_d), ([0xCB, 0x43], .bit_0_e),
      ([0xCB, 0x44], .bit_0_h), ([0xCB, 0x45], .bit_0_l), ([0xCB, 0x46], .bit_0_atHL), ([0xCB, 0x47], .bit_0_a),
      ([0xCB, 0x48], .bit_1_b), ([0xCB, 0x49], .bit_1_c), ([0xCB, 0x4A], .bit_1_d), ([0xCB, 0x4B], .bit_1_e),
      ([0xCB, 0x4C], .bit_1_h), ([0xCB, 0x4D], .bit_1_l), ([0xCB, 0x4E], .bit_1_atHL), ([0xCB, 0x4F], .bit_1_a)] : List (List Byte × Instr)).all decodesTo = true := by decide

theorem test_decode_cb_5x : ([
      ([0xCB, 0x50], .bit_2_b), ([0xCB, 0x51], .bit_2_c), ([0xCB, 0x52], .bit_2_d), ([0xCB, 0x53], .bit_2_e),
      ([0xCB, 0x54], .bit_2_h), ([0xCB, 0x55], .bit_2_l), ([0xCB, 0x56], .bit_2_atHL), ([0xCB, 0x57], .bit_2_a),
      ([0xCB, 0x58], .bit_3_b), ([0xCB, 0x59], .bit_3_c), ([0xCB, 0x5A], .bit_3_d), ([0xCB, 0x5B], .bit_3_e),
      ([0xCB, 0x5C], .bit_3_h), ([0xCB, 0x5D], .bit_3_l), ([0xCB, 0x5E], .bit_3_atHL), ([0xCB, 0x5F], .bit_3_a)] : List (List Byte × Instr)).all decodesTo = true := by decide

theorem test_decode_cb_6x : ([
      ([0xCB, 0x60], .bit_4_b), ([0xCB, 0x61], .bit_4_c), ([0xCB, 0x62], .bit_4_d), ([0xCB, 0x63], .bit_4_e),
      ([0xCB, 0x64], .bit_4_h), ([0xCB, 0x65], .bit_4_l), ([0xCB, 0x66], .bit_4_atHL), ([0xCB, 0x67], .bit_4_a),
      ([0xCB, 0x68], .bit_5_b), ([0xCB, 0x69], .bit_5_c), ([0xCB, 0x6A], .bit_5_d), ([0xCB, 0x6B], .bit_5_e),
      ([0xCB, 0x6C], .bit_5_h), ([0xCB, 0x6D], .bit_5_l), ([0xCB, 0x6E], .bit_5_atHL), ([0xCB, 0x6F], .bit_5_a)] : List (List Byte × Instr)).all decodesTo = true := by decide

theorem test_decode_cb_7x : ([
      ([0xCB, 0x70], .bit_6_b), ([0xCB, 0x71], .bit_6_c), ([0xCB, 0x72], .bit_6_d), ([0xCB, 0x73], .bit_6_e),
      ([0xCB, 0x74], .bit_6_h), ([0xCB, 0x75], .bit_6_l), ([0xCB, 0x76], .bit_6_atHL), ([0xCB, 0x77], .bit_6_a),
      ([0xCB, 0x78], .bit_7_b), ([0xCB, 0x79], .bit_7_c), ([0xCB, 0x7A], .bit_7_d), ([0xCB, 0x7B], .bit_7_e),
      ([0xCB, 0x7C], .bit_7_h), ([0xCB, 0x7D], .bit_7_l), ([0xCB, 0x7E], .bit_7_atHL), ([0xCB, 0x7F], .bit_7_a)] : List (List Byte × Instr)).all decodesTo = true := by decide

theorem test_decode_cb_8x : ([
      ([0xCB, 0x80], .res_0_b), ([0xCB, 0x81], .res_0_c), ([0xCB, 0x82], .res_0_d), ([0xCB, 0x83], .res_0_e),
      ([0xCB, 0x84], .res_0_h), ([0xCB, 0x85], .res_0_l), ([0xCB, 0x86], .res_0_atHL), ([0xCB, 0x87], .res_0_a),
      ([0xCB, 0x88], .res_1_b), ([0xCB, 0x89], .res_1_c), ([0xCB, 0x8A], .res_1_d), ([0xCB, 0x8B], .res_1_e),
      ([0xCB, 0x8C], .res_1_h), ([0xCB, 0x8D], .res_1_l), ([0xCB, 0x8E], .res_1_atHL), ([0xCB, 0x8F], .res_1_a)] : List (List Byte × Instr)).all decodesTo = true := by decide

theorem test_decode_cb_9x : ([
      ([0xCB, 0x90], .res_2_b), ([0xCB, 0x91], .res_2_c), ([0xCB, 0x92], .res_2_d), ([0xCB, 0x93], .res_2_e),
      ([0xCB, 0x94], .res_2_h), ([0xCB, 0x95], .res_2_l), ([0xCB, 0x96], .res_2_atHL), ([0xCB, 0x97], .res_2_a),
      ([0xCB, 0x98], .res_3_b), ([0xCB, 0x99], .res_3_c), ([0xCB, 0x9A], .res_3_d), ([0xCB, 0x9B], .res_3_e),
      ([0xCB, 0x9C], .res_3_h), ([0xCB, 0x9D], .res_3_l), ([0xCB, 0x9E], .res_3_atHL), ([0xCB, 0x9F], .res_3_a)] : List (List Byte × Instr)).all decodesTo = true := by decide

theorem test_decode_cb_Ax : ([
      ([0xCB, 0xA0], .res_4_b), ([0xCB, 0xA1], .res_4_c), ([0xCB, 0xA2], .res_4_d), ([0xCB, 0xA3], .res_4_e),
      ([0xCB, 0xA4], .res_4_h), ([0xCB, 0xA5], .res_4_l), ([0xCB, 0xA6], .res_4_atHL), ([0xCB, 0xA7], .res_4_a),
      ([0xCB, 0xA8], .res_5_b), ([0xCB, 0xA9], .res_5_c), ([0xCB, 0xAA], .res_5_d), ([0xCB, 0xAB], .res_5_e),
      ([0xCB, 0xAC], .res_5_h), ([0xCB, 0xAD], .res_5_l), ([0xCB, 0xAE], .res_5_atHL), ([0xCB, 0xAF], .res_5_a)] : List (List Byte × Instr)).all decodesTo = true := by decide

theorem test_decode_cb_Bx : ([
      ([0xCB, 0xB0], .res_6_b), ([0xCB, 0xB1], .res_6_c), ([0xCB, 0xB2], .res_6_d), ([0xCB, 0xB3], .res_6_e),
      ([0xCB, 0xB4], .res_6_h), ([0xCB, 0xB5], .res_6_l), ([0xCB, 0xB6], .res_6_atHL), ([0xCB, 0xB7], .res_6_a),
      ([0xCB, 0xB8], .res_7_b), ([0xCB, 0xB9], .res_7_c), ([0xCB, 0xBA], .res_7_d), ([0xCB, 0xBB], .res_7_e),
      ([0xCB, 0xBC], .res_7_h), ([0xCB, 0xBD], .res_7_l), ([0xCB, 0xBE], .res_7_atHL), ([0xCB, 0xBF], .res_7_a)] : List (List Byte × Instr)).all decodesTo = true := by decide

theorem test_decode_cb_Cx : ([
      ([0xCB, 0xC0], .set_0_b), ([0xCB, 0xC1], .set_0_c), ([0xCB, 0xC2], .set_0_d), ([0xCB, 0xC3], .set_0_e),
      ([0xCB, 0xC4], .set_0_h), ([0xCB, 0xC5], .set_0_l), ([0xCB, 0xC6], .set_0_atHL), ([0xCB, 0xC7], .set_0_a),
      ([0xCB, 0xC8], .set_1_b), ([0xCB, 0xC9], .set_1_c), ([0xCB, 0xCA], .set_1_d), ([0xCB, 0xCB], .set_1_e),
      ([0xCB, 0xCC], .set_1_h), ([0xCB, 0xCD], .set_1_l), ([0xCB, 0xCE], .set_1_atHL), ([0xCB, 0xCF], .set_1_a)] : List (List Byte × Instr)).all decodesTo = true := by decide

theorem test_decode_cb_Dx : ([
      ([0xCB, 0xD0], .set_2_b), ([0xCB, 0xD1], .set_2_c), ([0xCB, 0xD2], .set_2_d), ([0xCB, 0xD3], .set_2_e),
      ([0xCB, 0xD4], .set_2_h), ([0xCB, 0xD5], .set_2_l), ([0xCB, 0xD6], .set_2_atHL), ([0xCB, 0xD7], .set_2_a),
      ([0xCB, 0xD8], .set_3_b), ([0xCB, 0xD9], .set_3_c), ([0xCB, 0xDA], .set_3_d), ([0xCB, 0xDB], .set_3_e),
      ([0xCB, 0xDC], .set_3_h), ([0xCB, 0xDD], .set_3_l), ([0xCB, 0xDE], .set_3_atHL), ([0xCB, 0xDF], .set_3_a)] : List (List Byte × Instr)).all decodesTo = true := by decide

theorem test_decode_cb_Ex : ([
      ([0xCB, 0xE0], .set_4_b), ([0xCB, 0xE1], .set_4_c), ([0xCB, 0xE2], .set_4_d), ([0xCB, 0xE3], .set_4_e),
      ([0xCB, 0xE4], .set_4_h), ([0xCB, 0xE5], .set_4_l), ([0xCB, 0xE6], .set_4_atHL), ([0xCB, 0xE7], .set_4_a),
      ([0xCB, 0xE8], .set_5_b), ([0xCB, 0xE9], .set_5_c), ([0xCB, 0xEA], .set_5_d), ([0xCB, 0xEB], .set_5_e),
      ([0xCB, 0xEC], .set_5_h), ([0xCB, 0xED], .set_5_l), ([0xCB, 0xEE], .set_5_atHL), ([0xCB, 0xEF], .set_5_a)] : List (List Byte × Instr)).all decodesTo = true := by decide

theorem test_decode_cb_Fx : ([
      ([0xCB, 0xF0], .set_6_b), ([0xCB, 0xF1], .set_6_c), ([0xCB, 0xF2], .set_6_d), ([0xCB, 0xF3], .set_6_e),
      ([0xCB, 0xF4], .set_6_h), ([0xCB, 0xF5], .set_6_l), ([0xCB, 0xF6], .set_6_atHL), ([0xCB, 0xF7], .set_6_a),
      ([0xCB, 0xF8], .set_7_b), ([0xCB, 0xF9], .set_7_c), ([0xCB, 0xFA], .set_7_d), ([0xCB, 0xFB], .set_7_e),
      ([0xCB, 0xFC], .set_7_h), ([0xCB, 0xFD], .set_7_l), ([0xCB, 0xFE], .set_7_atHL), ([0xCB, 0xFF], .set_7_a)] : List (List Byte × Instr)).all decodesTo = true := by decide

/-- The instruction of an opcode-table word, by the table's own numbering, is the one the next step fetches. -/
def fetchesWord (nbits w : Nat) (i : Instr) : Bool :=
  decide (decodeTableWord nbits w = some i) && decide ((State.reset.withFetchWord nbits w).fetch.1 = i) &&
    decide ((State.reset.withFetchWord nbits w).pc = 0x0100)

theorem test_table_words :
    (fetchesWord 8 0x00 .nop && fetchesWord 8 0x01 (.ld_bc_nn 0) && fetchesWord 8 0x10 (.stop 0)
      && fetchesWord 8 0x76 .halt && fetchesWord 8 0xD3 (.invalid 0xD3) && fetchesWord 8 0xFE (.cp_n 0)
      && fetchesWord 16 0xCB00 .rlc_b && fetchesWord 16 0xCB46 .bit_0_atHL && fetchesWord 16 0xCBFF .set_7_a) = true := by
  decide

theorem test_table_word_too_wide : decodeTableWord 8 0x100 = none ∧ decodeTableWord 0 0 = none := by decide

/-! ### One step: rows of spec/95_test_vectors.md -/

/-- The start state of the vectors: zeros, SP = 0xD000 and PC = 0x0150, on a ROM-only cartridge. -/
def bench : State :=
  { State.reset with a := 0, f := 0, c := 0, e := 0, h := 0, l := 0, sp := 0xD000, pc := 0x0150, ifr := 0 }

/-- The state with bytes at PC. -/
def code (bytes : List Byte) (s : State) : State := s.placeBytes s.pc bytes

/-- The state after one step; the state itself where there is none. -/
def after (s : State) : State :=
  match step s with
  | .next t => t
  | _ => s

/-- The instruction of the bytes at PC has run: its results, and what the step returns. -/
def ran (s : State) (cycles : Nat) (checks : State → Bool) : Bool :=
  decide (stepResult s = some (.ok cycles)) && checks (after s)

theorem test_L2 : ran (code [0x40] { bench with b := 0x12, f := 0xF0 }) 4
    (fun t => decide (t.pc = 0x0151)) = true := by decide

theorem test_L4 : ran (code [0x2E, 0xFF] { bench with l := 0x01 }) 8
    (fun t => decide (t.l = 0xFF ∧ t.pc = 0x0152)) = true := by decide

theorem test_L6 : ran (code [0x66] (({ bench with h := 0xC0, l := 0x00 } : State).busWrite 0xC000 0xD1)) 8
    (fun t => decide (t.h = 0xD1 ∧ t.pc = 0x0151)) = true := by decide

theorem test_L7 : ran (code [0x70] { bench with h := 0xC0, l := 0x00, b := 0x9C }) 8
    (fun t => decide (t.pc = 0x0151 ∧ t.readVal 0xC000 = 0x9C)) = true := by decide

theorem test_L8 : ran (code [0x74] { bench with h := 0xC1, l := 0x23 }) 8
    (fun t => decide (t.pc = 0x0151 ∧ t.readVal 0xC123 = 0xC1)) = true := by decide

theorem test_L10 : ran (code [0x36, 0xAA] { bench with h := 0xC0, l := 0x10 }) 12
    (fun t => decide (t.pc = 0x0152 ∧ t.readVal 0xC010 = 0xAA)) = true := by decide

theorem test_L11 : ran (code [0x0A] (({ bench with b := 0xFF, c := 0x80 } : State).busWrite 0xFF80 0x01)) 8
    (fun t => decide (t.a = 0x01 ∧ t.pc = 0x0151)) = true := by decide

theorem test_L12 : ran (code [0x1A] { bench with d := 0x01, e := 0x50 }) 8
    (fun t => decide (t.a = 0x1A ∧ t.pc = 0x0151)) = true := by decide

theorem test_L13 : ran (code [0x02] { bench with b := 0xC0, c := 0x01, a := 0x42 }) 8
    (fun t => decide (t.pc = 0x0151 ∧ t.readVal 0xC001 = 0x42)) = true := by decide

theorem test_L14 : ran (code [0x12] { bench with d := 0xE0, e := 0x00, a := 0x07 }) 8
    (fun t => decide (t.pc = 0x0151 ∧ t.readVal 0xE000 = 0x07)) = true := by decide

theorem test_L17 : ran (code [0xEA, 0xFF, 0xFF] { bench with a := 0xFF }) 16
    (fun t => decide (t.pc = 0x0153 ∧ t.ie = 0x1F)) = true := by decide

theorem test_L20 : ran (code [0xF2] { bench with c := 0xFF, ie := 0x01 }) 8
    (fun t => decide (t.a = 0xE1 ∧ t.pc = 0x0151)) = true := by decide

theorem test_L24 : ran (code [0xE0, 0x0F] { bench with a := 0x05 }) 12
    (fun t => decide (t.pc = 0x0152 ∧ t.ifr = 0x05)) = true := by decide

theorem test_L25 : ran (code [0xE0, 0x0F] { bench with a := 0xFF }) 12
    (fun t => decide (t.pc = 0x0152 ∧ t.ifr = 0x1F)) = true := by decide

theorem test_L26 : ran (code [0x2A] (({ bench with h := 0xC0, l := 0x00 } : State).busWrite 0xC000 0x3A)) 8
    (fun t => decide (t.a = 0x3A ∧ t.l = 0x01 ∧ t.pc = 0x0151)) = true := by decide

theorem test_L27 : ran (code [0x2A] { bench with h := 0xFF, l := 0xFF, ie := 0x02 }) 8
    (fun t => decide (t.a = 0xE2 ∧ t.h = 0x00 ∧ t.l = 0x00 ∧ t.pc = 0x0151)) = true := by decide

theorem test_L28 : ran (code [0x3A] (({ bench with h := 0xC0, l := 0x01 } : State).busWrite 0xC001 0x77)) 8
    (fun t => decide (t.a = 0x77 ∧ t.l = 0x00 ∧ t.pc = 0x0151)) = true := by decide

theorem test_L30 : ran (code [0x22] { bench with h := 0xC0, l := 0x00, a := 0x01 }) 8
    (fun t => decide (t.l = 0x01 ∧ t.pc = 0x0151 ∧ t.readVal 0xC000 = 0x01)) = true := by decide

theorem test_L32 : ran (code [0x32] { bench with h := 0xDF, l := 0xFF, a := 0x02 }) 8
    (fun t => decide (t.l = 0xFE ∧ t.pc = 0x0151 ∧ t.readVal 0xDFFF = 0x02)) = true := by decide

theorem test_W1 : ran (code [0x01, 0x34, 0x12] bench) 12
    (fun t => decide (t.b = 0x12 ∧ t.c = 0x34 ∧ t.pc = 0x0153)) = true := by decide

theorem test_W5 : ran (code [0x08, 0x00, 0xC0] { bench with sp := 0xDFF0 }) 20
    (fun t => decide (t.pc = 0x0153 ∧ t.readVal 0xC000 = 0xF0 ∧ t.readVal 0xC001 = 0xDF)) = true := by decide

theorem test_W7 : ran (code [0xF9] { bench with h := 0xD0, l := 0x00, sp := 0xFFFE }) 8
    (fun t => decide (t.sp = 0xD000 ∧ t.pc = 0x0151)) = true := by decide

theorem test_W9 : ran (code [0xD5] { bench with sp := 0xD000, d := 0xBE, e := 0xEF }) 16
    (fun t => decide (t.sp = 0xCFFE ∧ t.pc = 0x0151 ∧ t.readVal 0xCFFF = 0xBE ∧ t.readVal 0xCFFE = 0xEF)) = true := by decide

theorem test_W13 : ran (code [0xF1] ((({ bench with sp := 0xC000 } : State).busWrite 0xC000 0xFF).busWrite 0xC001 0x12)) 12
    (fun t => decide (t.a = 0x12 ∧ t.f = 0xF0 ∧ t.sp = 0xC002 ∧ t.pc = 0x0151)) = true := by decide

theorem test_W15 : ran (code [0xC1] ((({ bench with sp := 0xFFFC } : State).busWrite 0xFFFC 0x34).busWrite 0xFFFD 0x12)) 12
    (fun t => decide (t.b = 0x12 ∧ t.c = 0x34 ∧ t.sp = 0xFFFE ∧ t.pc = 0x0151)) = true := by decide

theorem test_W19 : ran (code [0xF8, 0xFF] { bench with sp := 0xD000 }) 12
    (fun t => decide (t.h = 0xCF ∧ t.l = 0xFF ∧ t.pc = 0x0152)) = true := by decide

theorem test_W21 : ran (code [0xF8, 0xFF] { bench with sp := 0xD0FF }) 12
    (fun t => decide (t.h = 0xD0 ∧ t.l = 0xFE ∧ t.f = 0x30 ∧ t.pc = 0x0152)) = true := by decide

theorem test_A1 : ran (code [0x80] { bench with a := 0x0F, b := 0x01 }) 4
    (fun t => decide (t.a = 0x10 ∧ t.f = 0x20 ∧ t.pc = 0x0151)) = true := by decide

theorem test_A7 : ran (code [0xC6, 0xFF] { bench with a := 0x3C }) 8
    (fun t => decide (t.a = 0x3B ∧ t.f = 0x30 ∧ t.pc = 0x0152)) = true := by decide

theorem test_A9 : ran (code [0x88] { bench with a := 0x0E, b := 0x01, f := 0x10 }) 4
    (fun t => decide (t.a = 0x10 ∧ t.f = 0x20 ∧ t.pc = 0x0151)) = true := by decide

theorem test_A13 : ran (code [0x8E] (({ bench with a := 0xE1, h := 0xC0, l := 0x00, f := 0x10 } : State).busWrite 0xC000 0x1E)) 8
    (fun t => decide (t.a = 0x00 ∧ t.f = 0xB0 ∧ t.pc = 0x0151)) = true := by decide

theorem test_A15 : ran (code [0x93] { bench with a := 0x3E, e := 0x3E }) 4
    (fun t => decide (t.a = 0x00 ∧ t.f = 0xC0 ∧ t.pc = 0x0151)) = true := by decide

theorem test_A19 : ran (code [0x96] (({ bench with a := 0x3E, h := 0xC0, l := 0x00 } : State).busWrite 0xC000 0x40)) 8
    (fun t => decide (t.a = 0xFE ∧ t.f = 0x50 ∧ t.pc = 0x0151)) = true := by decide

theorem test_A21 : ran (code [0x9C] { bench with a := 0x3B, h := 0x2A, f := 0x10 }) 4
    (fun t => decide (t.a = 0x10 ∧ t.f = 0x40 ∧ t.pc = 0x0151)) = true := by decide

theorem test_A25 : ran (code [0x9E] (({ bench with a := 0x3B, h := 0xC0, l := 0x00, f := 0x10 } : State).busWrite 0xC000 0x4F)) 8
    (fun t => decide (t.a = 0xEB ∧ t.f = 0x70 ∧ t.pc = 0x0151)) = true := by decide

theorem test_A27 : ran (code [0xA5] { bench with a := 0x5A, l := 0x3F }) 4
    (fun t => decide (t.a = 0x1A ∧ t.f = 0x20 ∧ t.pc = 0x0151)) = true := by decide

theorem test_A29 : ran (code [0xA6] (({ bench with a := 0x5A, h := 0xC0, l := 0x00 } : State).busWrite 0xC000 0x00)) 8
    (fun t => decide (t.a = 0x00 ∧ t.f = 0xA0 ∧ t.pc = 0x0151)) = true := by decide

theorem test_A31 : ran (code [0xA8] { bench with a := 0xFF, b := 0x0F }) 4
    (fun t => decide (t.a = 0xF0 ∧ t.pc = 0x0151)) = true := by decide

theorem test_A33 : ran (code [0xAE] (({ bench with a := 0xFF, h := 0xC0, l := 0x00 } : State).busWrite 0xC000 0x8A)) 8
    (fun t => decide (t.a = 0x75 ∧ t.pc = 0x0151)) = true := by decide

theorem test_A35 : ran (code [0xB1] { bench with a := 0x5A, c := 0x03 }) 4
    (fun t => decide (t.a = 0x5B ∧ t.pc = 0x0151)) = true := by decide

theorem test_A37 : ran (code [0xB6] (({ bench with a := 0x00, h := 0xC0, l := 0x00 } : State).busWrite 0xC000 0x00)) 8
    (fun t => decide (t.f = 0x80 ∧ t.pc = 0x0151)) = true := by decide

theorem test_A39 : ran (code [0xB8] { bench with a := 0x3C, b := 0x2F }) 4
    (fun t => decide (t.f = 0x60 ∧ t.pc = 0x0151)) = true := by decide

theorem test_A43 : ran (code [0xFE, 0x01] { bench with a := 0x00 }) 8
    (fun t => decide (t.f = 0x70 ∧ t.pc = 0x0152)) = true := by decide

theorem test_A45 : ran (code [0x04] { bench with b := 0x0F, f := 0x10 }) 4
    (fun t => decide (t.b = 0x10 ∧ t.f = 0x30 ∧ t.pc = 0x0151)) = true := by decide

theorem test_A47 : ran (code [0x34] (({ bench with h := 0xC0, l := 0x00 } : State).busWrite 0xC000 0x50)) 12
    (fun t => decide (t.pc = 0x0151 ∧ t.readVal 0xC000 = 0x51)) = true := by decide

theorem test_A49 : ran (code [0x2D] { bench with l := 0x01, f := 0x10 }) 4
    (fun t => decide (t.l = 0x00 ∧ t.f = 0xD0 ∧ t.pc = 0x0151)) = true := by decide

theorem test_A53 : ran (code [0x35] (({ bench with h := 0xC0, l := 0x00 } : State).busWrite 0xC000 0x01)) 12
    (fun t => decide (t.f = 0xC0 ∧ t.pc = 0x0151 ∧ t.readVal 0xC000 = 0x00)) = true := by decide

theorem test_X2 : ran (code [0x19] { bench with h := 0xFF, l := 0xFF, d := 0x00, e := 0x01, f := 0x80 }) 8
    (fun t => decide (t.h = 0x00 ∧ t.l = 0x00 ∧ t.f = 0xB0 ∧ t.pc = 0x0151)) = true := by decide

theorem test_X6 : ran (code [0xE8, 0x02] { bench with sp := 0xFFF8 }) 16
    (fun t => decide (t.sp = 0xFFFA ∧ t.pc = 0x0152)) = true := by decide

theorem test_X10 : ran (code [0x13] { bench with d := 0x23, e := 0x5F }) 8
    (fun t => decide (t.e = 0x60 ∧ t.pc = 0x0151)) = true := by decide

theorem test_X14 : ran (code [0x3B] { bench with sp := 0x0000 }) 8
    (fun t => decide (t.sp = 0xFFFF ∧ t.pc = 0x0151)) = true := by decide

theorem test_M9 : ran (code [0x27] { bench with a := 0x9A, f := 0x00 }) 4
    (fun t => decide (t.a = 0x00 ∧ t.f = 0x90 ∧ t.pc = 0x0151)) = true := by decide

theorem test_M11 : ran (code [0x2F] { bench with a := 0x35 }) 4
    (fun t => decide (t.a = 0xCA ∧ t.f = 0x60 ∧ t.pc = 0x0151)) = true := by decide

theorem test_M13 : ran (code [0x3F] { bench with f := 0x70 }) 4
    (fun t => decide (t.f = 0x00 ∧ t.pc = 0x0151)) = true := by decide

theorem test_M15 : ran (code [0x37] { bench with f := 0xE0 }) 4
    (fun t => decide (t.f = 0x90 ∧ t.pc = 0x0151)) = true := by decide

theorem test_M17 : ran (code [0x00] { bench with f := 0xF0, a := 0x12 }) 4
    (fun t => decide (t.pc = 0x0151)) = true := by decide

theorem test_M19 : ran (code [0xF3] { bench with eiPending := true }) 4
    (fun t => decide (t.pc = 0x0151 ∧ t.eiPending = false)) = true := by decide

theorem test_M33 : ran (code [0x10, 0x00] bench) 4
    (fun t => decide (t.pc = 0x0152 ∧ t.mode = .stopped)) = true := by decide

theorem test_S1 : ran (code [0x07] { bench with a := 0x85 }) 4
    (fun t => decide (t.a = 0x0B ∧ t.f = 0x10 ∧ t.pc = 0x0151)) = true := by decide

theorem test_S3 : ran (code [0x17] { bench with a := 0x95, f := 0x10 }) 4
    (fun t => decide (t.a = 0x2B ∧ t.pc = 0x0151)) = true := by decide

theorem test_S5 : ran (code [0x0F] { bench with a := 0x3B }) 4
    (fun t => decide (t.a = 0x9D ∧ t.f = 0x10 ∧ t.pc = 0x0151)) = true := by decide

theorem test_S7 : ran (code [0x1F] { bench with a := 0x81, f := 0x00 }) 4
    (fun t => decide (t.a = 0x40 ∧ t.f = 0x10 ∧ t.pc = 0x0151)) = true := by decide

theorem test_S9 : ran (code [0xCB, 0x00] { bench with b := 0x85, f := 0x00 }) 8
    (fun t => decide (t.b = 0x0B ∧ t.f = 0x10 ∧ t.pc = 0x0152)) = true := by decide

theorem test_S13 : ran (code [0xCB, 0x06] (({ bench with h := 0xC0, l := 0x00, f := 0x10 } : State).busWrite 0xC000 0x8A)) 16
    (fun t => decide (t.pc = 0x0152 ∧ t.readVal 0xC000 = 0x15)) = true := by decide

theorem test_S15 : ran (code [0xCB, 0x08] { bench with b := 0x01, f := 0x10 }) 8
    (fun t => decide (t.b = 0x80 ∧ t.pc = 0x0152)) = true := by decide

theorem test_S19 : ran (code [0xCB, 0x10] { bench with b := 0x85, f := 0x00 }) 8
    (fun t => decide (t.b = 0x0A ∧ t.f = 0x10 ∧ t.pc = 0x0152)) = true := by decide

theorem test_S25 : ran (code [0xCB, 0x18] { bench with b := 0x01, f := 0x10 }) 8
    (fun t => decide (t.b = 0x80 ∧ t.pc = 0x0152)) = true := by decide

theorem test_S29 : ran (code [0xCB, 0x20] { bench with b := 0x85, f := 0x00 }) 8
    (fun t => decide (t.b = 0x0A ∧ t.f = 0x10 ∧ t.pc = 0x0152)) = true := by decide

theorem test_S35 : ran (code [0xCB, 0x28] { bench with b := 0x01, f := 0x10 }) 8
    (fun t => decide (t.b = 0x00 ∧ t.f = 0x90 ∧ t.pc = 0x0152)) = true := by decide

theorem test_S39 : ran (code [0xCB, 0x30] { bench with b := 0x85, f := 0x00 }) 8
    (fun t => decide (t.b = 0x58 ∧ t.pc = 0x0152)) = true := by decide

theorem test_S43 : ran (code [0xCB, 0x36] (({ bench with h := 0xC0, l := 0x00, f := 0x10 } : State).busWrite 0xC000 0x8A)) 16
    (fun t => decide (t.f = 0x00 ∧ t.pc = 0x0152 ∧ t.readVal 0xC000 = 0xA8)) = true := by decide

theorem test_S45 : ran (code [0xCB, 0x38] { bench with b := 0x01, f := 0x10 }) 8
    (fun t => decide (t.b = 0x00 ∧ t.f = 0x90 ∧ t.pc = 0x0152)) = true := by decide

theorem test_B1 : ran (code [0xCB, 0x7F] { bench with a := 0x80 }) 8
    (fun t => decide (t.f = 0x20 ∧ t.pc = 0x0152)) = true := by decide

theorem test_B5 : ran (code [0xCB, 0x7E] (({ bench with h := 0xC0, l := 0x00, f := 0x10 } : State).busWrite 0xC000 0x80)) 12
    (fun t => decide (t.f = 0x30 ∧ t.pc = 0x0152)) = true := by decide

theorem test_B7 : ran (code [0xCB, 0xB9] { bench with c := 0x00, f := 0xF0 }) 8
    (fun t => decide (t.pc = 0x0152)) = true := by decide

theorem test_B9 : ran (code [0xCB, 0xCB] { bench with e := 0x00 }) 8
    (fun t => decide (t.e = 0x02 ∧ t.pc = 0x0152)) = true := by decide

theorem test_B11 : ran (code [0xCB, 0xDE] (({ bench with h := 0xC0, l := 0x00 } : State).busWrite 0xC000 0x00)) 16
    (fun t => decide (t.pc = 0x0152 ∧ t.readVal 0xC000 = 0x08)) = true := by decide

theorem test_J1 : ran (code [0xC3, 0x00, 0x02] bench) 16
    (fun t => decide (t.pc = 0x0200)) = true := by decide

theorem test_J3 : ran (code [0xC2, 0x00, 0x20] { bench with f := 0x90 }) 12
    (fun t => decide (t.pc = 0x0153)) = true := by decide

theorem test_J5 : ran (code [0xCA, 0x00, 0x20] { bench with f := 0x90 }) 16
    (fun t => decide (t.pc = 0x2000)) = true := by decide

theorem test_J13 : ran (code [0x18, 0x80] bench) 12
    (fun t => decide (t.pc = 0x00D2)) = true := by decide

theorem test_J17 : ran (code [0x20, 0xFB] { bench with f := 0x90 }) 8
    (fun t => decide (t.pc = 0x0152)) = true := by decide

theorem test_J19 : ran (code [0x28, 0xFB] { bench with f := 0x90 }) 12
    (fun t => decide (t.pc = 0x014D)) = true := by decide

theorem test_J25 : ran (code [0xCD, 0x00, 0x30] { bench with sp := 0x0000 }) 24
    (fun t => decide (t.sp = 0xFFFE ∧ t.pc = 0x3000 ∧ t.ie = 0x01 ∧ t.readVal 0xFFFE = 0x53)) = true := by decide

theorem test_J27 : ran (code [0xC4, 0x00, 0x30] { bench with f := 0x90, sp := 0xD000 }) 12
    (fun t => decide (t.pc = 0x0153)) = true := by decide

theorem test_J29 : ran (code [0xCC, 0x00, 0x30] { bench with f := 0x90, sp := 0xD000 }) 24
    (fun t => decide (t.sp = 0xCFFE ∧ t.pc = 0x3000 ∧ t.readVal 0xCFFF = 0x01 ∧ t.readVal 0xCFFE = 0x53)) = true := by decide

theorem test_J37 : ran (code [0xC0] ((({ bench with f := 0x90, sp := 0xC000 } : State).busWrite 0xC000 0x53).busWrite 0xC001 0x01)) 8
    (fun t => decide (t.pc = 0x0151)) = true := by decide

theorem test_J39 : ran (code [0xC8] ((({ bench with f := 0x90, sp := 0xC000 } : State).busWrite 0xC000 0x53).busWrite 0xC001 0x01)) 20
    (fun t => decide (t.sp = 0xC002 ∧ t.pc = 0x0153)) = true := by decide

theorem test_J47 : ran (code [0xCF] { bench with sp := 0xD000 }) 16
    (fun t => decide (t.sp = 0xCFFE ∧ t.pc = 0x0008 ∧ t.readVal 0xCFFF = 0x01 ∧ t.readVal 0xCFFE = 0x51)) = true := by decide

theorem test_J53 : ran (code [0xFF] { bench with sp := 0xD000 }) 16
    (fun t => decide (t.sp = 0xCFFE ∧ t.pc = 0x0038 ∧ t.readVal 0xCFFF = 0x01 ∧ t.readVal 0xCFFE = 0x51)) = true := by decide

/-! ### Interrupts, faults and modes: rows of spec/95_test_vectors.md -/

theorem test_I20 : ran (code [0x00] { bench with ime := true, ie := 0x1F, ifr := 0x1F }) 20
    (fun t => decide (t.sp = 0xCFFE ∧ t.pc = 0x0040 ∧ t.ime = false ∧ t.ifr = 0x1E ∧ t.readVal 0xCFFF = 0x01 ∧
      t.readVal 0xCFFE = 0x50)) = true := by decide

theorem test_I28 : ran (code [0x00] { bench with ime := true, ie := 0x01, ifr := 0x03, sp := 0xFF10 }) 20
    (fun t => decide (t.sp = 0xFF0E ∧ t.pc = 0x0040 ∧ t.ime = false ∧ t.ifr = 0x01)) = true := by decide

theorem test_I30 : ran (code [0x3C] (({ bench with ime := true, ie := 0x10, mode := .halted } : State).request 0x10)) 20
    (fun t => decide (t.sp = 0xCFFE ∧ t.pc = 0x0060 ∧ t.ime = false ∧ t.mode = .running)) = true := by decide

theorem test_I2 : stepResult (code [0xDB] { bench with a := 0x12 }) = some (.fault { op := 0xDB, pc := 0x0150 }) ∧
    after (code [0xDB] { bench with a := 0x12 }) =
      { code [0xDB] { bench with a := 0x12 } with fault := some { op := 0xDB, pc := 0x0150 } } := by decide

theorem test_I14 : (after (code [0xED] { bench with eiPending := true })).eiPending = true ∧
    (after (code [0xED] { bench with eiPending := true })).ime = false := by decide

theorem test_halt_bug_reads_a_byte_twice :
    (after (code [0x3E, 0x14] { bench with mode := .haltBug })).a = 0x3E ∧
    (after (code [0x3E, 0x14] { bench with mode := .haltBug })).pc = 0x0151 := by decide

theorem test_ei_then_nop : (after (code [0xFB, 0x00] bench)).ime = false ∧
    (after (after (code [0xFB, 0x00] bench))).ime = true := by decide

/-! ### Witnesses of the statements' hypotheses -/

/-- The state an outcome answers. -/
def answer : Host.Outcome State Fault Refusal → Option State
  | .next t => some t
  | _ => none

/-- The fault an outcome stops on. -/
def faultOf : Host.Outcome State Fault Refusal → Option Fault
  | .fault x => some x
  | _ => none

theorem bench_inv : bench.Inv := ⟨by decide, by decide, by decide, by decide, by decide, by decide⟩

/-- An MBC1 cartridge of four banks with 32 KiB of RAM. -/
def mbc1 (m : Mbc1) : State :=
  { bench with cart := { rom := [(0x4000, 0x11), (0x8000, 0x22)], romBanks := 4, ramSize := 32768 }, mbc := .mbc1 m }

/-- An MBC3 cartridge of eight banks with 32 KiB of RAM. -/
def mbc3 (m : Mbc3) : State :=
  { bench with cart := { rom := [(0x4000, 0x11), (0x1C000, 0x77)], romBanks := 8, ramSize := 32768 }, mbc := .mbc3 m }

/-- MBC1 with its RAM enabled, and RAM-banking mode. -/
def mbc1On : Mbc1 := { ramEnable := true, bank1 := 3, bank2 := 2, mode := 1 }

/-- MBC3 with a clock and its RAM enabled. -/
def mbc3On (sel : Sel) : Mbc3 := { Mbc3.atLoad true with ramEnable := true, sel := sel, latchPrev := 0x00 }

theorem mbc1_inv : (mbc1 mbc1On).Inv := ⟨by decide, by decide, by decide, by decide, by decide, by decide⟩

theorem mbc3_inv : (mbc3 (mbc3On (.rtc .s))).Inv :=
  ⟨by decide, by decide, by decide, by decide, by decide, by decide⟩

/-- The peripherals as the reference stub. -/
def stubbed (s : State) : State := { s with cfg := { s.cfg with periph := .stub } }

theorem test_witness_DecodeOfEncode :
    Instr.wellFormed (.invalid 0xFD) = true ∧ Instr.wellFormed (.jr_e 0xFF) = true ∧
      Instr.wellFormed (.jp_nn 0xFFFF) = true ∧ Instr.wellFormed .set_7_a = true := by decide

theorem test_witness_EncodeOfDecode :
    decode [0xCB, 0x46, 0x99] = .ok (.bit_0_atHL, [0x99]) ∧ decode [0xD3] = .ok (.invalid 0xD3, []) ∧
      decode [0x31, 0xFE, 0xFF] = .ok (.ld_sp_nn 0xFFFE, []) := by decide

theorem test_witness_LengthFollowsFromFirstByte :
    (opLength 0x00).bytes = 0 + 1 ∧ (opLength 0x06).bytes = 1 + 1 ∧ (opLength 0xC3).bytes = 2 + 1 ∧
      0 + 1 < (opLength 0xCB).bytes ∧ 1 + 1 < (opLength 0xC3).bytes ∧
      decode [0xC3, 0x50] = .error .truncated ∧ Instr.wellFormed (.invalid 0xEB) = true := by decide

/-- The stack pointers at the edges of the two ranges. -/
theorem test_witness_PopUndoesPush_and_ReturnUndoesCall :
    ([0xC002, 0xE000, 0xFF82, 0xFFFF] : List Word).all (fun sp =>
      let s := { bench with sp := sp, b := 0x12, c := 0x34 }
      let t := (s.push16 0x12 0x34).tick 16
      decide ((0xC002 ≤ s.sp.toNat ∧ s.sp.toNat ≤ 0xE000) ∨ (0xFF82 ≤ s.sp.toNat ∧ s.sp.toNat ≤ 0xFFFF)) &&
        decide (answer (exec .push_bc s) = some t ∧ answer (exec .pop_bc t) = some (({ t with sp := sp } : State).tick 12))) = true := by
  decide

theorem bench_sp_inv (sp : Word) : ({ bench with sp := sp } : State).Inv := { bench_inv with }

theorem test_witness_AdjustAndCarryControl :
    (0x00 : Byte).getLsbD 6 = false ∧ ({ bench with f := 0x40 } : State).f.getLsbD 6 = true := by decide

theorem test_witness_DaaGivesDecimalArithmetic :
    99 < 100 ∧ ({ bench with a := 0x99, f := 0x10 } : State).a = bcdByte 99 ∧
      (∃ t, exec (.adc_a_n (bcdByte 99)) { bench with a := 0x99, f := 0x10 } = .next t) ∧
      ∃ t, exec (.sbc_a_n (bcdByte 99)) { bench with a := 0x99, f := 0x10 } = .next t :=
  ⟨by decide, by decide, ⟨_, rfl⟩, ⟨_, rfl⟩⟩

theorem test_witness_HaltStopDisableEnable :
    (let s : State := { bench with ie := 0x10, ifr := 0x10 }; s.ime = false ∧ s.ie &&& s.ifr ≠ 0) ∧
      ¬ (bench.ime = false ∧ bench.ie &&& bench.ifr ≠ 0) ∧
      (let s : State := { bench with ime := true, ie := 0x10, ifr := 0x10 }
       ¬ (s.ime = false ∧ s.ie &&& s.ifr ≠ 0)) := by decide

theorem test_witness_EveryInstructionCompletesAtItsCost :
    Instr.wellFormed (.invalid 0xF4) = true ∧ Instr.wellFormed (.callCond .nz 0x1234) = true := by decide

/-- A store at the edge of work RAM, seen from its mirror and its neighbours. -/
theorem test_witness_InstructionFrame_and_MemoryFrame :
    let s : State := { bench with h := 0xDD, l := 0xFF }
    answer (exec (.ld_atHL_n 5) s) = some ((s.busWrite 0xDDFF 5).tick 12) ∧
      s.storesTo 0x36 5 0 = [0xDDFF] ∧ s.loadsFrom 0x36 5 0 = [] ∧ s.writeReaches 0xDDFF 0xDDFE = false ∧
      s.writeReaches 0xDDFF 0xDDFF = true ∧ s.writeReaches 0xDDFF 0xFDFF = true ∧
      s.servedByPeriph 0xDDFE = false ∧ (stubbed s).cfg.periph = .stub ∧ s.storesTo 0x7E 0 0 = [] ∧
      s.loadsFrom 0x7E 0 0 = [0xDDFF] := by decide

/-- The hypotheses of a step that runs an instruction, and what the bytes at PC decode to. -/
def decodesAtPC (s : State) (b1 b2 : Byte) (i : Instr) (rest : List Byte) : Bool :=
  decide (s.fault = none ∧ s.takes = none ∧ s.readVal s.pc ∉ reservedOpcodes) &&
    decide (decode [s.readVal s.pc, b1, b2] = .ok (i, rest))

theorem test_witness_StepRunsDecodedInstruction :
    (decodesAtPC (code [0x3C, 0x01, 0x02] bench) 0x01 0x02 .inc_a [0x01, 0x02] &&
      decodesAtPC (code [0xCB, 0xC7, 0x02] bench) 0xC7 0x02 .set_0_a [0x02] &&
      decodesAtPC (code [0xC3, 0x50, 0x01] { bench with eiPending := true }) 0x50 0x01 (.jp_nn 0x0150) []) = true ∧
      bench.mode = .running := by decide

theorem test_witness_HaltBugFetchesFirstByteTwice :
    (decodesAtPC (code [0x3C, 0x01] { bench with mode := .haltBug }) 0x3C 0x01 .inc_a [0x3C, 0x01] &&
      decodesAtPC (code [0x3E, 0x01] { bench with mode := .haltBug }) 0x3E 0x01 (.ld_a_n 0x3E) [0x01] &&
      decodesAtPC (code [0xC3, 0x01] { bench with mode := .haltBug }) 0xC3 0x01 (.jp_nn 0x01C3) []) = true := by
  decide

theorem test_witness_ReservedByteRecordsInvalidOpcode :
    ([Mode.running, Mode.haltBug, Mode.halted]).all (fun m =>
      let s := code [0xFD] { bench with mode := m, ifr := 0x10 }
      decide (s.fault = none ∧ s.mode ≠ .stopped ∧ ¬ (s.mode = .halted ∧ s.ifr = 0) ∧ s.takes = none ∧
        s.readVal s.pc ∈ reservedOpcodes)) = true := by decide

theorem test_witness_StepStopsExactlyOnARecordedFault :
    bench.fault = none ∧
      faultOf (step { bench with fault := some { op := 0xD3, pc := 0x0150 } }) = some (.invalidOpcode 0xD3 0x0150) := by decide

theorem test_witness_FaultOnlyFromReservedByte :
    (code [0xD3] bench).fault = none ∧
      answer (step (code [0xD3] bench)) = some { code [0xD3] bench with fault := some { op := 0xD3, pc := 0x0150 } } := by
  decide

/-- The same in a step that a request wakes from Halted: R405 leaves the mode as it was. -/
theorem test_witness_FaultOnlyFromReservedByte_woken :
    let s := code [0xFD] { bench with mode := .halted, ifr := 0x10 }
    s.fault = none ∧ s.mode = .halted ∧
      answer (step s) = some { s with fault := some { op := 0xFD, pc := 0x0150 } } := by decide

theorem test_witness_StoppedAndHaltedUnits :
    (let s : State := { bench with mode := .stopped, ime := true, ie := 0x1F, ifr := 0x1F }
     s.fault = none ∧ s.mode = .stopped ∧ (after s).clock = 4 ∧ (after s).mode = .stopped) ∧
    (let s : State := { bench with mode := .halted }
     s.fault = none ∧ s.mode = .halted ∧ s.ifr = 0 ∧ (after s).clock = 4 ∧ (after s).mode = .halted) ∧
    (let s : State := { bench with mode := .halted, ifr := 0x10 }
     s.fault = none ∧ s.mode = .halted ∧ s.ifr ≠ 0 ∧ s.readVal s.pc ∉ reservedOpcodes ∧ (after s).mode = .running) ∧
    (let s : State := code [0xE4] { bench with mode := .halted, ime := true, ie := 0x10, ifr := 0x10 }
     s.fault = none ∧ s.mode = .halted ∧ s.ifr ≠ 0 ∧ s.takes ≠ none ∧ (after s).pc = 0x0060) ∧
    (let s : State := code [0xE4] { bench with mode := .halted, ie := 0x0F, ifr := 0x10 }
     s.fault = none ∧ s.mode = .halted ∧ s.ifr ≠ 0 ∧ s.takes = none ∧ s.readVal s.pc ∈ reservedOpcodes) ∧
    ((HostAction.request 0x12).apply { bench with ifr := 0x03 }).ifr = 0x13 := by decide

theorem test_witness_DispatchTakesTheInterrupt :
    (let s : State := { bench with ime := true, ie := 0x1F, ifr := 0x01 }
     s.fault = none ∧ s.mode ≠ .stopped ∧ s.ime = true ∧ s.pending = some 0) ∧
    (let s : State := { bench with ime := true, ie := 0x1F, ifr := 0x10, mode := .halted }
     s.fault = none ∧ s.mode ≠ .stopped ∧ s.ime = true ∧ s.pending = some 4) := by decide

theorem test_witness_LowestEnabledRequestFirst :
    ({ bench with ie := 0x1F, ifr := 0x1F } : State).pending = some 0 ∧
      ({ bench with ie := 0x18, ifr := 0x16 } : State).pending = some 4 ∧
      ({ bench with ie := 0x0F, ifr := 0x10 } : State).pending = none := by decide

theorem test_witness_EiTakesEffectAfterTheNextInstruction :
    ([(false, 0xFB), (true, 0x00), (true, 0xF3), (false, 0xF3), (false, 0x00), (true, 0xFB)] : List (Bool × Byte)).all
      (fun p =>
        let s := code [p.2] { bench with eiPending := p.1 }
        decide (s.fault = none ∧ s.mode = .running ∧ s.takes = none ∧ s.readVal s.pc = p.2) &&
          decide (answer (step s) = some (after s) ∧ (after s).fault = none)) = true := by decide

theorem test_witness_OnlyTheseEventsChangeIme :
    (let s := code [0xD9] bench
     answer (step s) = some (after s) ∧ s.ime = false ∧ (after s).ime = true) ∧
    (let s := code [0x00] { bench with eiPending := true }
     answer (step s) = some (after s) ∧ s.ime = false ∧ (after s).ime = true) ∧
    (let s := code [0xF3] { bench with ime := true }
     answer (step s) = some (after s) ∧ s.ime = true ∧ (after s).ime = false) ∧
    (let s := code [0x00] { bench with ime := true, ie := 0x01, ifr := 0x01 }
     answer (step s) = some (after s) ∧ s.ime = true ∧ (after s).ime = false) := by decide

/-- One start for each way a mode can change or stay. -/
theorem test_witness_ModeTransitionsAreComplete :
    ([({ bench with mode := .stopped }, .stopped),
      ({ bench with mode := .halted, ime := true, ie := 0x01, ifr := 0x01 }, .running),
      ({ bench with mode := .halted }, .halted),
      (code [0x76] { bench with ie := 0x01, ifr := 0x01 }, .haltBug),
      (code [0x76] bench, .halted),
      (code [0x10] bench, .stopped),
      (code [0xE3] { bench with mode := .haltBug }, .haltBug),
      (code [0xE3] { bench with mode := .halted, ifr := 0x10 }, .halted),
      (code [0x00] { bench with mode := .halted, ifr := 0x10 }, .running),
      (code [0x00] { bench with mode := .haltBug }, .running)] : List (State × Mode)).all
      (fun p => decide (answer (step p.1) = some (after p.1) ∧ (after p.1).mode = p.2)) = true := by decide

theorem test_witness_StepReturnsWhatItAddsToTheClock :
    stepResult (code [0xCD] bench) = some (.ok 24) ∧ stepResult (code [0x00] bench) = some (.ok 4) ∧
      stepResult (code [0xD3] bench) = some (.fault { op := 0xD3, pc := 0x0150 }) ∧
      stepResult { bench with fault := some { op := 0xD3, pc := 0 } } = some (.fault { op := 0xD3, pc := 0 }) ∧
      bench.cfg.cycleUnit = .t ∧ bench.cfg.haltTick = 4 ∧ bench.cfg.stopTick = 4 ∧ bench.cfg.dispatchCost = 20 := by
  decide

/-- Draws for a load or a reset. -/
def someDraws : Draws :=
  { wram := [(0x1FFF, 0xAA)], hram := [(0x7E, 0xBB)], cram := [(0, 0xCC)], a := 1, f := 0xFF, b := 2, c := 3, d := 4
    e := 5, h := 6, l := 7, sp := 0x1234, ifr := 0x1F }

/-- What leaves Stopped: a reset, and an import (log entry 13). -/
theorem test_witness_StoppedAndHaltedUnits_leaving :
    let s : State := { bench with mode := .stopped }
    s.mode = .stopped ∧ ((HostAction.reset someDraws).apply s).mode ≠ .stopped ∧
      ((HostAction.restoreFrom bench.saveState).apply s).mode ≠ .stopped := by decide

/-- An image with a header of the given type, rom_code and ram_code. -/
def image (size : Nat) (ty romCode ramCode : Byte) : Image :=
  { size := size, bytes := [(0x0147, ty), (0x0148, romCode), (0x0149, ramCode)] }

/-- The kind of error of a load. -/
def loadError (img : Image) : Option LoadError :=
  match State.load .standard img someDraws with
  | .ok _ => none
  | .error e => some e

/-- The controller, the bank count and the RAM size a load gives. -/
def loaded (img : Image) : Option (Mbc × Nat × Nat) :=
  match State.load .standard img someDraws with
  | .ok s => some (s.mbc, s.cart.romBanks, s.cart.ramSize)
  | .error _ => none

theorem test_witness_LoadChecksTheImage :
    loadError (image 0x014F 0 0 0) = some .truncated ∧
    loadError (image 0x0150 0x04 0 0) = some .unsupportedCartridgeType ∧
    loadError (image 0x8000 0x14 0 0) = some .unsupportedCartridgeType ∧
    loadError (image 0x8000 0x01 0x09 0) = some .badHeader ∧
    loadError (image 0x8000 0x01 0 0x06) = some .badHeader ∧
    loadError (image 0x8001 0x01 0 0) = some .sizeMismatch ∧
    loadError (image 0x10000 0x00 0x01 0) = some .sizeMismatch := by decide

theorem test_witness_LoadChecksTheImage_succeeds :
    loaded (image 0x8000 0x00 0x00 0x03) = some (.romOnly, 2, 0) ∧
    loaded (image 0x800000 0x03 0x08 0x05) = some (.mbc1 Mbc1.atLoad, 512, 65536) ∧
    loaded (image 0x8000 0x0F 0x00 0x00) = some (.mbc3 (Mbc3.atLoad true), 2, 0) ∧
    loaded (image 0x8000 0x13 0x00 0x04) = some (.mbc3 (Mbc3.atLoad false), 2, 131072) := by decide

theorem test_witness_ResetValues :
    ([0x00, 0x01, 0x10, 0x13] : List Byte).all (fun ty =>
      match State.load .standard (image 0x8000 ty 0 0) someDraws with
      | .ok s => decide (s.a = 0x01 ∧ s.f = 0xB0 ∧ s.sp = 0xFFFE ∧ s.pc = 0x0100 ∧ s.readVal 0xFFFF = 0xE0 ∧
          s.readVal 0xFF0F = 0xE1 ∧ s.clock = 0)
      | .error _ => false) = true ∧ Config.standard.resetProfile = .dmgPostBoot := by decide

theorem test_witness_StepKeepsInvariant :
    State.reset.Inv ∧ answer (step State.reset) = some (after State.reset) ∧ (after State.reset).pc = 0x0101 :=
  ⟨⟨by decide, by decide, by decide, by decide, by decide, by decide⟩, by decide, by decide⟩

theorem test_witness_HostActionsKeepInvariant :
    bench.Inv ∧ ∃ s, State.load .standard (image 0x8000 0x03 0 0x03) someDraws = .ok s :=
  ⟨bench_inv, _, rfl⟩

theorem test_witness_ConfigurationIsConstant :
    answer (step (code [0x00] (mbc1 mbc1On))) = some (after (code [0x00] (mbc1 mbc1On))) ∧ (0x3FFF : Word).toNat < 0x4000 := by
  decide

theorem test_witness_DisabledRamIsProtected :
    (mbc1 Mbc1.atLoad).mbc.ramEnabled = false ∧ bench.mbc.ramEnabled = false ∧
      (mbc3 (Mbc3.atLoad true)).mbc.ramEnabled = false ∧
      answer (step (mbc1 Mbc1.atLoad)) = some (after (mbc1 Mbc1.atLoad)) ∧
      ([0xA000, 0xBFFF] : List Word).all (fun a => decide ((mbc1 Mbc1.atLoad).readVal a = 0xFF)) = true := by decide

theorem test_witness_BusWriteByAddress :
    bench.cfg.periph = .oracle ∧ (stubbed bench).cfg.periph = .stub := by decide

/-- Each clause at the edges of its range. -/
theorem test_witness_WriteThenReadBack :
    ([0xC000, 0xDDFF, 0xDE00, 0xDFFF, 0xE000, 0xFDFF, 0xFF80, 0xFFFE] : List Word).all
      (fun a => decide ((bench.busWrite a 0x5A).readVal a = 0x5A)) = true ∧
    ([0xC000, 0xDDFF] : List Word).all
      (fun a => decide ((bench.busWrite a 0x5A).readVal (a + 0x2000) = 0x5A)) = true ∧
    ([0xFF0F, 0xFFFF] : List Word).all (fun a => decide ((bench.busWrite a 0x05).readVal a = 0xE5)) = true ∧
    ([0xA000, 0xBFFF] : List Word).all (fun a =>
      decide ((mbc1 mbc1On).ramTarget a = .cram (0x4000 + (a.toNat - 0xA000))) &&
        decide (((mbc1 mbc1On).busWrite a 0x5A).readVal a = 0x5A)) = true ∧
    ([0x8000, 0x9FFF, 0xFE00, 0xFE9F, 0xFF00, 0xFF4B] : List Word).all (fun a =>
      (stubbed bench).servedByPeriph a && decide (((stubbed bench).busWrite a 0x5A).readVal a = 0x5A)) = true ∧
    ([(.s, 0x3F), (.m, 0x3F), (.hr, 0x1F), (.dl, 0xFF), (.dh, 0xC1)] : List (RtcReg × Byte)).all (fun p =>
      let s := mbc3 (mbc3On (.rtc p.1))
      decide (s.ramTarget 0xA000 = .rtc p.1 ∧ s.ramTarget 0xBFFF = .rtc p.1) &&
        decide ((((s.busWrite 0xA000 0xFF).busWrite 0x6000 0).busWrite 0x6000 1).readVal 0xBFFF = p.2)) = true := by
  decide

/-- Each clause at the edges of its range: the address written, the addresses it reaches, and addresses it does not. -/
theorem test_witness_BusWriteFrame :
    ([(0x0000, [0x4000, 0x7FFF, 0xA000, 0xBFFF], [0x3FFF, 0x8000, 0x9FFF, 0xC000]),
      (0x7FFF, [0x4000, 0xBFFF], [0x0000, 0x3FFF]),
      (0xC000, [0xC000, 0xE000], [0xC001, 0xFFFF]),
      (0xDDFF, [0xDDFF, 0xFDFF], [0xDDFE, 0xFE00]),
      (0xDE00, [0xDE00], [0xFE00, 0xDE01]),
      (0xDFFF, [0xDFFF], [0xFFFF]),
      (0xE000, [0xE000, 0xC000], [0xE001]),
      (0xFDFF, [0xFDFF, 0xDDFF], [0xFE00]),
      (0xFF0F, [0xFF0F], [0xFF0E, 0xFFFF]),
      (0xFF80, [0xFF80], [0xFF7F]),
      (0xFFFF, [0xFFFF], [0xFF0F, 0xFFFE]),
      (0xFEA0, [], [0xFEA0, 0xFE9F]),
      (0xFEFF, [], [0xFEFF, 0xFF00]),
      (0xA000, [0xA000], [0xA001, 0xBFFF]),
      (0xBFFF, [0xBFFF], [0xA000]),
      (0x8000, [0x8000, 0xFE9F, 0xFF00, 0xFF0F], [0x7FFF, 0xC000, 0xFF03]),
      (0xFF00, [0xFF00, 0xFF0F], [0xFF80, 0xFFFF]),
      (0xFF03, [], [0xFF03, 0xFF0F]),
      (0xFF7F, [], [0xFF7F])] : List (Word × List Word × List Word)).all (fun p =>
        p.2.1.all (fun x => (mbc1 mbc1On).writeReaches p.1 x) &&
          p.2.2.all (fun x => !(mbc1 mbc1On).writeReaches p.1 x)) = true := by decide

/-- Each clause at the edges of its range. -/
theorem test_witness_Mbc1Banking :
    ((mbc1 mbc1On).busWrite 0x1FFF 0x1A).mbc = .mbc1 { mbc1On with ramEnable := true } ∧
    ((mbc1 mbc1On).busWrite 0x0000 0x0B).mbc = .mbc1 { mbc1On with ramEnable := false } ∧
    ((mbc1 mbc1On).busWrite 0x2000 0x20).mbc = .mbc1 { mbc1On with bank1 := 1 } ∧
    ((mbc1 mbc1On).busWrite 0x3FFF 0xFF).mbc = .mbc1 { mbc1On with bank1 := 31 } ∧
    ((mbc1 mbc1On).busWrite 0x4000 0xFF).mbc = .mbc1 { mbc1On with bank2 := 3 } ∧
    ((mbc1 mbc1On).busWrite 0x5FFF 0x04).mbc = .mbc1 { mbc1On with bank2 := 0 } ∧
    ((mbc1 mbc1On).busWrite 0x6000 0xFE).mbc = .mbc1 { mbc1On with mode := 0 } ∧
    ((mbc1 mbc1On).busWrite 0x7FFF 0x01).mbc = .mbc1 { mbc1On with mode := 1 } ∧
    (mbc1 { mbc1On with bank1 := 1 }).readVal 0x4000 = 0x11 ∧
    (mbc1 { mbc1On with bank1 := 2, mode := 0 }).readVal 0x4000 = 0x22 ∧
    (mbc1 Mbc1.atLoad).busWrite 0xA000 0x55 = mbc1 Mbc1.atLoad ∧
    ((mbc1 mbc1On).busWrite 0xBFFF 0x55).cram = [(0x5FFF, 0x55)] ∧
    (mbc1 mbc1On).cart.ramSize ≠ 0 := by decide

/-- Each clause at the edges of its range. -/
theorem test_witness_Mbc3Banking :
    ((mbc3 (mbc3On (.ram 1))).busWrite 0x1FFF 0x0A).mbc = .mbc3 (mbc3On (.ram 1)) ∧
    ((mbc3 (mbc3On (.ram 1))).busWrite 0x2000 0x80).mbc = .mbc3 { mbc3On (.ram 1) with romBank := 1 } ∧
    ((mbc3 (mbc3On (.ram 1))).busWrite 0x3FFF 0xFF).mbc = .mbc3 { mbc3On (.ram 1) with romBank := 127 } ∧
    ([(0x03, .ram 3), (0x04, .ram 1), (0x07, .ram 1), (0x08, .rtc .s), (0x0C, .rtc .dh), (0x0D, .ram 1)] :
      List (Byte × Sel)).all (fun p => [(0x4000 : Word), 0x5FFF].all (fun a => decide (
        ((mbc3 (mbc3On (.ram 1))).busWrite a p.1).mbc = .mbc3 (mbc3On p.2)))) = true ∧
    ((mbc3 { mbc3On (.ram 1) with hasRtc := false }).busWrite 0x4000 0x08).mbc =
      .mbc3 { mbc3On (.ram 1) with hasRtc := false } ∧
    ((mbc3 { mbc3On (.ram 1) with live := { Rtc.zero with sec := 9 } }).busWrite 0x6000 0x01).mbc =
      .mbc3 { mbc3On (.ram 1) with live := { Rtc.zero with sec := 9 }, latched := { Rtc.zero with sec := 9 }, latchPrev := 1 } ∧
    ((mbc3 { mbc3On (.ram 1) with live := { Rtc.zero with sec := 9 } }).busWrite 0x7FFF 0x02).mbc =
      .mbc3 { mbc3On (.ram 1) with live := { Rtc.zero with sec := 9 }, latchPrev := 2 } ∧
    (mbc3 { mbc3On (.ram 1) with romBank := 15 }).readVal 0x4000 = 0x77 ∧
    (mbc3 (Mbc3.atLoad true)).busWrite 0xA000 0x55 = mbc3 (Mbc3.atLoad true) ∧
    ((mbc3 (mbc3On (.ram 3))).busWrite 0xBFFF 0x55).cram = [(0x7FFF, 0x55)] ∧
    ({ mbc3 (mbc3On (.ram 3)) with cart := Cart.mk [] 8 0 } : State).readVal 0xA000 = 0xFF ∧
    ((mbc3 (mbc3On (.rtc .hr))).busWrite 0xA000 0xFF).mbc =
      .mbc3 { mbc3On (.rtc .hr) with live := { Rtc.zero with hour := 31 } } := by decide

/-- Day 511, 23:59:59, running. -/
def lastSecond : Rtc :=
  { sec := 59, min := 59, hour := 23, dayLo := 0xFF, dayHi := true, halt := false, carry := false }

theorem test_witness_ClockKeepsTimeOfDay :
    lastSecond.halt = false ∧ lastSecond.inRange = true ∧ lastSecond.seconds = 512 * 86400 - 1 ∧
      lastSecond.advance 1 = { Rtc.zero with carry := true } ∧
      ({ lastSecond with halt := true } : Rtc).advance 3 = { lastSecond with halt := true } ∧
      (mbc3On (.ram 0)).hasRtc = true ∧ (Mbc3.atLoad false).hasRtc = false := by decide

/-- The least and the greatest bank count. -/
theorem test_witness_TranslationStaysInTheImage :
    (Cart.mk [] 2 0).Ok ∧ (Cart.mk [(0x7FFFFF, 1)] 512 65536).Ok ∧
      (mbc1 mbc1On).ramTarget 0xBFFF = .cram 0x5FFF ∧ bench.mbc = .romOnly ∧ bench.cart.romBanks = 2 :=
  ⟨⟨⟨0x00, rfl⟩, ⟨0x00, rfl⟩, rfl⟩, ⟨⟨0x08, rfl⟩, ⟨0x05, rfl⟩, by decide⟩, by decide, by decide, by decide⟩

theorem test_witness_ImportOfExportIsTheSameState :
    (mbc3 (mbc3On (.rtc .s))).Inv ∧
    (let s := mbc3 (mbc3On (.rtc .s))
     let t := { mbc3 (Mbc3.atLoad true) with a := 7, clock := 99 }
     t.cfg = s.cfg ∧ t.cart = s.cart ∧ Mbc.sameVariant t.mbc s.mbc = true ∧ t.draws = s.draws ∧ t.stub = s.stub ∧
       t.restore s.saveState = .ok s) ∧
    (let sv := bench.saveState
     ([{ sv with f := 0x01 }, { sv with mbc := .mbc1 true 1 0 0 }, { sv with ie := 0x20 }, { sv with ifr := 0x20 }, { sv with wram := [(0x2000, 1)] },
       { sv with hram := [(0x7F, 1)] }, { sv with cram := [(0, 1)] }] : List SaveState).all
       (fun x => decide (bench.restore x = .error .illFormed)) = true) :=
  ⟨mbc3_inv, by decide, by decide⟩

/-- Bank values of an MBC1 save state at and past the edges of their fields. -/
theorem test_witness_ImportOfExportIsTheSameState_mbc1 :
    let s := mbc1 mbc1On
    ([.mbc1 true 0 0 0, .mbc1 true 32 0 0, .mbc1 true 1 4 0, .mbc1 true 1 0 2, .romOnly] : List SavedMbc).all
      (fun m => decide (s.restore { s.saveState with mbc := m } = .error .illFormed)) = true ∧
    ([.mbc1 true 1 0 0, .mbc1 false 31 3 1] : List SavedMbc).all
      (fun m => match s.restore { s.saveState with mbc := m } with
        | .ok t => decide (t.saveState = { s.saveState with mbc := m })
        | .error _ => false) = true := by decide

/-- The same for an MBC3 with a clock, and an RTC select without one. -/
theorem test_witness_ImportOfExportIsTheSameState_mbc3 :
    let s := mbc3 (mbc3On (.rtc .s))
    let plain := mbc3 (Mbc3.atLoad false)
    let zero : RtcBytes := { s := 0, m := 0, hr := 0, dl := 0, dh := 0 }
    ([.mbc3 true 0 0 0 zero zero, .mbc3 true 128 0 0 zero zero, .mbc3 true 1 0x04 0 zero zero,
      .mbc3 true 1 0x07 0 zero zero, .mbc3 true 1 0x0D 0 zero zero, .mbc3 true 1 0 0 { zero with s := 64 } zero,
      .mbc3 true 1 0 0 zero { zero with dh := 0x02 }] : List SavedMbc).all
      (fun m => decide (s.restore { s.saveState with mbc := m } = .error .illFormed)) = true ∧
    ([.mbc3 true 1 0x08 0xFF zero { s := 63, m := 63, hr := 31, dl := 0xFF, dh := 0xC1 },
      .mbc3 true 127 0x0C 0 zero zero, .mbc3 true 1 0x03 0 zero zero] : List SavedMbc).all
      (fun m => match s.restore { s.saveState with mbc := m } with
        | .ok t => decide (t.saveState = { s.saveState with mbc := m })
        | .error _ => false) = true ∧
    plain.restore { plain.saveState with mbc := .mbc3 true 1 0x08 0xFF zero zero } = .error .illFormed := by decide

theorem test_witness_HostResetKeepsCartridgeMemory :
    bench.cfg.resetProfile = .dmgPostBoot ∧
    (let s : State := { bench with cfg := { bench.cfg with resetProfile := .unspecified } }
     s.cfg.resetProfile = .unspecified ∧ (s.hostReset someDraws).f = 0xF0 ∧ (s.hostReset someDraws).sp = 0x1234) ∧
    ((mbc1 mbc1On).hostReset someDraws).mbc = .mbc1 Mbc1.atLoad ∧
    ((mbc3 (mbc3On (.rtc .s))).hostReset someDraws).mbc = .mbc3 (Mbc3.atLoad true) := by decide

end Sys2Proof.Tests
end

namespace Sys2Proof.Machine

/-! ## The configuration of a console (R7, R12)

The relation between two states of one console, and that each shared operation, each instruction, each step and each host
move stays within it. -/

/-! ### The controller's variant (R12, R121) -/

@[simp] theorem Mbc.sameVariant_refl (m : Mbc) : Mbc.sameVariant m m = true := by
  cases m <;> simp [Mbc.sameVariant]

theorem Mbc.sameVariant_trans {m₁ m₂ m₃ : Mbc} (h : Mbc.sameVariant m₁ m₂ = true)
    (h' : Mbc.sameVariant m₂ m₃ = true) : Mbc.sameVariant m₁ m₃ = true := by
  cases m₁ with
  | romOnly =>
    cases m₂ with
    | romOnly => exact h'
    | mbc1 _ | mbc3 _ => cases h
  | mbc1 _ =>
    cases m₂ with
    | mbc1 _ => cases m₃ <;> exact h'
    | romOnly | mbc3 _ => cases h
  | mbc3 a =>
    cases m₂ with
    | mbc3 b =>
      have hab : a.hasRtc = b.hasRtc := by simpa [Mbc.sameVariant] using h
      cases m₃ with
      | mbc3 _ => simpa [Mbc.sameVariant, hab] using h'
      | romOnly | mbc1 _ => cases h'
    | romOnly | mbc1 _ => cases h

theorem Mbc.sameVariant_control (m : Mbc) (w : ControlWindow) (v : Byte) :
    Mbc.sameVariant m (m.control w v) = true := by
  cases m with
  | romOnly => rfl
  | mbc1 m => rfl
  | mbc3 m => cases w <;> simp [Mbc.control, Mbc3.control, Mbc.sameVariant]

theorem Mbc.sameVariant_writeRtc (m : Mbc) (reg : RtcReg) (v : Byte) :
    Mbc.sameVariant m (m.writeRtc reg v) = true := by
  cases m <;> simp [Mbc.writeRtc, Mbc.sameVariant]

theorem Mbc.sameVariant_advance (m : Mbc) (n : Nat) : Mbc.sameVariant m (m.advance n) = true := by
  cases m with
  | romOnly => rfl
  | mbc1 m => rfl
  | mbc3 m =>
    cases hr : m.hasRtc <;> simp [Mbc.advance, hr, Mbc.sameVariant]

theorem Mbc.sameVariant_atReset (m : Mbc) : Mbc.sameVariant m m.atReset = true := by
  cases m <;> simp [Mbc.atReset, Mbc3.atLoad, Mbc.sameVariant]

/-- An import is refused unless the saved controller is of the console's variant; whether there is a clock is the
console's (R443). -/
theorem SavedMbc.sameVariant_restore {m m' : Mbc} {sv : SavedMbc} (h : SavedMbc.restore m sv = some m') :
    Mbc.sameVariant m m' = true := by
  unfold SavedMbc.restore at h
  (repeat' split at h) <;> cases h <;> simp [Mbc.sameVariant]

theorem State.sameVariant_ramWrite (a : Word) (v : Byte) (s : State) :
    Mbc.sameVariant s.mbc (s.ramWrite a v).mbc = true := by
  unfold State.ramWrite
  split
  · exact Mbc.sameVariant_refl _
  · exact Mbc.sameVariant_refl _
  · exact Mbc.sameVariant_writeRtc _ _ v

/-- A bus write reaches the controller in the ROM area, as a control write, and in the RAM window, as a clock write. -/
theorem State.sameVariant_busWrite (a : Word) (v : Byte) (s : State) :
    Mbc.sameVariant s.mbc (s.busWrite a v).mbc = true := by
  unfold State.busWrite
  split
  case h_1 => exact Mbc.sameVariant_control _ _ v
  case h_3 => exact s.sameVariant_ramWrite a v
  case h_9 => split <;> simp
  all_goals simp

/-! ### The same configuration -/

/-- t is a state of the same console as s: the launch parameters (R7), the cartridge and the controller's variant (R12). -/
structure State.SameConfig (s t : State) : Prop where
  cfg     : t.cfg = s.cfg
  cart    : t.cart = s.cart
  variant : Mbc.sameVariant s.mbc t.mbc = true

/-- Whatever the controller holds, an address of the fixed ROM window reads the image's byte at that offset (R91). -/
theorem State.readVal_fixedRom {a : Word} (h : a.toNat < 0x4000) (s : State) : s.readVal a = s.cart.rom.read a.toNat := by
  have hr : region a = .rom := region_eq_rom.mpr (by omega)
  simp only [State.readVal, hr, State.romRead, State.romOffset, if_pos h]

namespace State.SameConfig

variable {s t u : State}

theorem of_eq (hcfg : t.cfg = s.cfg) (hcart : t.cart = s.cart) (hmbc : t.mbc = s.mbc) : s.SameConfig t :=
  ⟨hcfg, hcart, by rw [hmbc]; exact Mbc.sameVariant_refl _⟩

theorem refl (s : State) : s.SameConfig s := of_eq rfl rfl rfl

theorem trans (h : s.SameConfig t) (h' : t.SameConfig u) : s.SameConfig u :=
  ⟨h'.cfg.trans h.cfg, h'.cart.trans h.cart, Mbc.sameVariant_trans h.variant h'.variant⟩

theorem readVal_fixedRom (h : s.SameConfig t) {a : Word} (ha : a.toNat < 0x4000) : t.readVal a = s.readVal a := by
  rw [State.readVal_fixedRom ha, State.readVal_fixedRom ha, h.cart]

theorem readEff (a : Word) (s : State) : s.SameConfig (s.readEff a) := of_eq (by simp) (by simp) (by simp)

theorem busWrite (a : Word) (v : Byte) (s : State) : s.SameConfig (s.busWrite a v) :=
  ⟨by simp, by simp, s.sameVariant_busWrite a v⟩

theorem of_ordinary (h : Ordinary s t) : s.SameConfig t := by
  induction h with
  | refl => exact refl s
  | regs _ same _ ih => rw [same]; exact { ih with }
  | flags _ same _ ih => rw [same]; exact { ih with }
  | read _ x ih => exact ih.trans (readEff x _)
  | write _ x v ih => exact ih.trans (busWrite x v _)

/-- A dispatch changes interrupt and mode fields, then pushes PC and jumps as an ordinary instruction does (R421). -/
theorem dispatch (k : Fin 5) (s : State) : s.SameConfig (s.dispatch k) := by
  exact trans (t := { s with ime := false, eiPending := false, ifr := _, mode := _ }) (of_eq rfl rfl rfl)
    (of_ordinary (((Ordinary.refl.push16 _ _).withPC _).tick _))

theorem fetch (s : State) : s.SameConfig s.fetch.2 := by
  obtain ⟨-, h⟩ | ⟨-, h | h | h⟩ := s.fetch_state <;> rw [h]
  · exact readEff _ s
  all_goals exact of_eq (by simp) (by simp) (by simp)

end State.SameConfig

/-! ### What exec can do -/

/-- Every instruction that answers a next state is ordinary or is one of the six that change IME, ei_pending, the mode or
the fault. -/
theorem exec_cases {i : Instr} {s t : State} (h : exec i s = .next t) :
    (Instr.isOrdinary i = true ∧ Ordinary s t) ∨
      (i = .halt ∧ t = ({ s with mode := s.haltMode } : State).tick 4) ∨
      ((∃ n, i = .stop n) ∧ t = ({ s with mode := .stopped } : State).tick 4) ∨
      (i = .di ∧ t = ({ s with ime := false, eiPending := false } : State).tick 4) ∨
      (i = .ei ∧ t = ({ s with eiPending := true } : State).tick 4) ∨
      (i = .reti ∧ t = s.returnFromInterrupt.tick 16) ∨
      (∃ op, i = .invalid op ∧ t = s.raiseInvalidOpcode op) := by
  cases hi : Instr.isOrdinary i with
  | true =>
    obtain ⟨t', ht', hord⟩ := exec_ordinary i hi s
    rw [ht'] at h; cases h
    exact .inl ⟨rfl, hord⟩
  | false =>
    refine .inr ?_
    unfold Instr.isOrdinary at hi
    split at hi
    case h_1 => cases h; exact .inl ⟨rfl, rfl⟩
    case h_2 n => cases h; exact .inr (.inl ⟨⟨n, rfl⟩, rfl⟩)
    case h_3 => cases h; exact .inr (.inr (.inl ⟨rfl, rfl⟩))
    case h_4 => cases h; exact .inr (.inr (.inr (.inl ⟨rfl, rfl⟩)))
    case h_5 => cases h; exact .inr (.inr (.inr (.inr (.inl ⟨rfl, rfl⟩))))
    case h_6 op => cases h; exact .inr (.inr (.inr (.inr (.inr ⟨op, rfl, rfl⟩))))
    case h_7 => cases hi

namespace State.SameConfig

theorem of_exec {i : Instr} {s t : State} (h : exec i s = .next t) : s.SameConfig t := by
  obtain ⟨-, hord⟩ | ⟨-, rfl⟩ | ⟨-, rfl⟩ | ⟨-, rfl⟩ | ⟨-, rfl⟩ | ⟨-, rfl⟩ | ⟨op, -, rfl⟩ := exec_cases h
  · exact of_ordinary hord
  · exact of_eq rfl rfl rfl
  · exact of_eq rfl rfl rfl
  · exact of_eq rfl rfl rfl
  · exact of_eq rfl rfl rfl
  · exact of_eq (by simp [State.returnFromInterrupt]) (by simp [State.returnFromInterrupt])
      (by simp [State.returnFromInterrupt])
  · exact of_eq rfl rfl rfl

theorem wake (s : State) : s.SameConfig s.wake := of_eq (by simp) (by simp) (by simp)

theorem of_step {s t : State} (h : step s = .next t) : s.SameConfig t := by
  obtain ⟨-, ⟨-, rfl⟩ | ⟨-, k, -, rfl⟩ | ⟨-, -, -, rfl⟩ | ⟨-, -, -, u, hexec, ⟨-, rfl⟩ | ⟨-, rfl⟩⟩⟩ := step_cases h
  case inl => exact of_eq rfl rfl rfl
  case inr.inl => exact (wake s).trans (dispatch k _)
  case inr.inr.inl => exact (wake s).trans (of_eq rfl rfl rfl)
  case inr.inr.inr.inl => exact of_eq rfl rfl rfl
  case inr.inr.inr.inr =>
    exact (wake s).trans <| (fetch _).trans <| (of_exec hexec).trans <| of_eq (by simp) (by simp) (by simp)

/-! ### The host's moves (R441) -/

theorem hostReset (dr : Draws) (s : State) : s.SameConfig (s.hostReset dr) :=
  ⟨by simp [State.hostReset], by simp [State.hostReset], by simpa [State.hostReset] using Mbc.sameVariant_atReset s.mbc⟩

theorem of_restore {s t : State} {sv : SaveState} (h : s.restore sv = .ok t) : s.SameConfig t := by
  unfold State.restore at h
  split at h
  next mbc hmbc _ => cases h; exact ⟨rfl, rfl, SavedMbc.sameVariant_restore hmbc⟩
  next => cases h

theorem apply (act : HostAction) (s : State) : s.SameConfig (act.apply s) := by
  cases act with
  | read a => exact readEff a s
  | write a v => exact busWrite a v s
  | request mask => exact of_eq rfl rfl rfl
  | rtcAdvance n => exact ⟨rfl, rfl, s.mbc.sameVariant_advance n⟩
  | reset dr => exact hostReset dr s
  | saveOut => exact refl s
  | restoreFrom sv =>
    cases h : s.restore sv with
    | ok t => simpa only [HostAction.apply, h] using of_restore h
    | error e => simpa only [HostAction.apply, h] using refl s

end State.SameConfig

/-- Settles O46: every step and every host move leads to a state of the same configuration. -/
theorem configurationIsConstant : Obligations.ConfigurationIsConstant := by
  unfold Obligations.ConfigurationIsConstant
  refine ⟨fun s t h => ?_, fun s act => ?_⟩
  · have hc := State.SameConfig.of_step h
    exact ⟨hc.cfg, hc.cart, hc.variant, fun a ha => hc.readVal_fixedRom ha⟩
  · have hc := State.SameConfig.apply act s
    exact ⟨hc.cfg, hc.cart, hc.variant, fun a ha => hc.readVal_fixedRom ha⟩

end Sys2Proof.Machine

namespace Sys2Proof.Machine

/-! ## Well-formed states (R36, R47 to R52): a step keeps them -/

namespace State.Inv

variable {s t : State}

theorem tick (h : s.Inv) (n : Nat) : (s.tick n).Inv := { h with }

theorem withIme (h : s.Inv) (v : Bool) : ({ s with ime := v } : State).Inv := { h with }

theorem fetch (h : s.Inv) : s.fetch.2.Inv := by
  obtain ⟨-, hf⟩ | ⟨-, hf | hf | hf⟩ := s.fetch_state <;> rw [hf]
  · exact h.readEff _
  · exact h.fetchedOpcode
  · exact h.fetchedOpcode.fetched
  · exact h.fetchedOpcode.fetched.fetched

theorem dispatch (h : s.Inv) (k : Fin 5) : (s.dispatch k).Inv := by
  have hack : ({ s with
      ime := false, eiPending := false, ifr := s.ifr &&& ~~~(1#5 <<< k.val)
      mode := if s.mode = Mode.haltBug then Mode.running else s.mode } : State).Inv := { h with }
  exact (((Ordinary.refl.push16 _ _).withPC _).tick _).inv hack

theorem commitEi (h : s.Inv) (wasPending : Bool) : (s.commitEi wasPending).Inv := by
  unfold State.commitEi
  split
  · exact { h with }
  · exact h

theorem of_exec {i : Instr} (h : s.Inv) (he : exec i s = .next t) : t.Inv := by
  obtain ⟨-, hord⟩ | ⟨-, rfl⟩ | ⟨-, rfl⟩ | ⟨-, rfl⟩ | ⟨-, rfl⟩ | ⟨-, rfl⟩ | ⟨op, -, rfl⟩ := exec_cases he
  case inl => exact hord.inv h
  case inr.inr.inr.inr.inr.inl => exact (withIme (Ordinary.refl.popPC.inv h) true).tick 16
  all_goals exact { h with }

theorem of_step (h : s.Inv) (hs : step s = .next t) : t.Inv := by
  obtain ⟨-, ⟨-, rfl⟩ | ⟨-, k, -, rfl⟩ | ⟨-, -, -, rfl⟩ | ⟨-, -, -, u, hexec, ⟨-, rfl⟩ | ⟨-, rfl⟩⟩⟩ := step_cases hs
  case inl => exact h.tick _
  case inr.inl => exact h.wake.dispatch k
  case inr.inr.inl => exact h.wake.tick _
  case inr.inr.inr.inl => exact h.rolledBack u
  case inr.inr.inr.inr => exact (h.wake.fetch.of_exec hexec).commitEi _

end State.Inv

/-- Settles O44: each kind of step keeps the well-formed states. -/
theorem stepKeepsInvariant : Obligations.StepKeepsInvariant := by
  unfold Obligations.StepKeepsInvariant
  exact fun s t h hs => h.of_step hs

/-! ## Load and reset (R55, R462) -/

theorem State.load_ok {cfg : Config} {img : Image} {dr : Draws} {s : State} (h : State.load cfg img dr = .ok s) :
    ∃ (cart : Cart) (mbc : Mbc), mbcOf (img.byte 0x0147) = some mbc ∧
      s = State.initial cfg cart mbc (Memory.ofCells cart.ramSize dr.cram) dr := by
  unfold State.load at h
  split at h
  · cases h
  split at h
  · cases h
  next mbc hm =>
    split at h
    · split at h
      · cases h
      split at h
      · cases h
      cases h
      exact ⟨_, mbc, hm, rfl⟩
    · cases h

theorem mbcOf_cases {ty : Byte} {m : Mbc} (h : mbcOf ty = some m) :
    m = .romOnly ∨ m = .mbc1 Mbc1.atLoad ∨ ∃ hasRtc, m = .mbc3 (Mbc3.atLoad hasRtc) := by
  unfold mbcOf at h
  (repeat' split at h) <;> cases h
  · exact .inl rfl
  · exact .inr (.inl rfl)
  · exact .inr (.inr ⟨true, rfl⟩)
  · exact .inr (.inr ⟨false, rfl⟩)

/-- Draws of no cells; which registers they hold does not matter under DMG_POST_BOOT. -/
def Draws.empty : Draws where
  wram := []
  hram := []
  cram := []
  a := 0
  f := 0
  b := 0
  c := 0
  d := 0
  e := 0
  h := 0
  l := 0
  sp := 0
  ifr := 0

theorem State.reset_eq_initial :
    State.reset = State.initial Config.standard (Cart.mk [] 2 0) .romOnly [] Draws.empty := rfl

section
variable (cfg : Config) (cart : Cart) (mbc : Mbc) (cram : Memory) (dr : Draws)

@[simp] theorem State.initial_wram : (State.initial cfg cart mbc cram dr).wram = Memory.ofCells 0x2000 dr.wram := by
  unfold State.initial initialRegs
  split <;> rfl

@[simp] theorem State.initial_hram : (State.initial cfg cart mbc cram dr).hram = Memory.ofCells 0x7F dr.hram := by
  unfold State.initial initialRegs
  split <;> rfl

@[simp] theorem State.initial_ime : (State.initial cfg cart mbc cram dr).ime = false := by
  unfold State.initial initialRegs
  split <;> rfl

@[simp] theorem State.initial_eiPending : (State.initial cfg cart mbc cram dr).eiPending = false := by
  unfold State.initial initialRegs
  split <;> rfl

@[simp] theorem State.initial_ie : (State.initial cfg cart mbc cram dr).ie = 0 := by
  unfold State.initial initialRegs
  split <;> rfl

end

/-- Under DMG_POST_BOOT nothing of the registers, the stack pointer and IF is left to the draws (R55). -/
theorem State.initial_dmgPostBoot {cfg : Config} (hp : cfg.resetProfile = .dmgPostBoot) (cart : Cart) (mbc : Mbc)
    (cram : Memory) (dr : Draws) :
    State.initial cfg cart mbc cram dr =
      { State.reset with
        cfg := cfg, cart := cart, mbc := mbc, cram := cram
        wram := Memory.ofCells 0x2000 dr.wram, hram := Memory.ofCells 0x7F dr.hram } := by
  simp only [State.initial, hp, initialRegs]
  rfl

/-- With IME = 0 nothing is dispatched (R412). -/
theorem State.takes_of_ime {s : State} (h : s.ime = false) : s.takes = none := by
  simp [State.takes, h]

/-- Settles O43: the state after reset is that of a load of the blank cartridge. -/
theorem resetSatisfiesInvariant : Obligations.ResetSatisfiesInvariant := by
  unfold Obligations.ResetSatisfiesInvariant
  rw [State.reset_eq_initial]
  exact State.initial_inv _ rfl (Memory.wf_nil _)

@[simp] theorem State.readVal_ifReg (s : State) : s.readVal 0xFF0F = intRegRead s.ifr := rfl

@[simp] theorem State.readVal_ieReg (s : State) : s.readVal 0xFFFF = intRegRead s.ie := rfl

/-- Settles O42: reset, a load and a host reset all make a State.initial, under DMG_POST_BOOT with the registers of
State.reset. -/
theorem resetValues : Obligations.ResetValues := by
  unfold Obligations.ResetValues
  refine ⟨fun s h => ?_, ?_, fun s dr => ?_⟩
  · obtain ⟨cfg, cart, mbc, cram, dr, hp, hm, rfl⟩ : ∃ cfg cart mbc cram dr, cfg.resetProfile = .dmgPostBoot ∧
        (mbc = .romOnly ∨ mbc = .mbc1 Mbc1.atLoad ∨ ∃ hasRtc, mbc = .mbc3 (Mbc3.atLoad hasRtc)) ∧
        s = State.initial cfg cart mbc cram dr := by
      obtain rfl | ⟨cfg, img, dr, hp, hload⟩ := h
      · exact ⟨_, _, _, _, _, rfl, .inl rfl, State.reset_eq_initial⟩
      · obtain ⟨cart, mbc, hm, rfl⟩ := State.load_ok hload
        exact ⟨_, _, _, _, _, hp, mbcOf_cases hm, rfl⟩
    rw [State.initial_dmgPostBoot hp, State.readVal_ieReg, State.readVal_ifReg]
    refine ⟨rfl, rfl, rfl, rfl, rfl, rfl, rfl, rfl, rfl, rfl, rfl, rfl, rfl, rfl, rfl,
      (by decide : intRegRead 0x00 = 0xE0), (by decide : intRegRead 0x01 = 0xE1), State.takes_of_ime rfl, ?_⟩
    obtain rfl | rfl | ⟨hasRtc, rfl⟩ := hm
    · exact trivial
    · exact rfl
    · exact rfl
  · intro cfg img dr s hload
    obtain ⟨cart, mbc, -, rfl⟩ := State.load_ok hload
    exact ⟨by simp, by simp, by simp⟩
  · refine ⟨by simp [State.hostReset], by simp [State.hostReset], by simp [State.hostReset],
      by simp [State.hostReset], State.takes_of_ime (by simp [State.hostReset]), fun hp => ?_⟩
    rw [State.hostReset, State.initial_dmgPostBoot hp]
    rfl

/-! ## Register pairs (R31) -/

/-- Settles O6: pair by pair the accessor's own equation, and register by register the read after the write. -/
theorem pairsAreTheirHalves : Obligations.PairsAreTheirHalves := by
  unfold Obligations.PairsAreTheirHalves
  intro s v hi lo x r r'
  refine ⟨rfl, rfl, rfl, rfl, rfl, rfl, rfl, rfl, rfl, rfl, rfl, rfl, rfl, rfl, ?_⟩
  split
  next h => rw [h, State.getR_setR_same]
  next h => exact State.getR_setR_other h x s

end Sys2Proof.Machine

namespace Sys2Proof.Machine

/-! ## What an instruction can do, with what its encoding names (R32, R33, R37, R84, R230)

Ordinary says how a next state is built; Effect says it again with the registers, the flags, SP and PC that the opcode fields
name, and with the addresses stored to. -/

/-- What the opcode fields of an instruction let it write. -/
structure Writes where
  regs  : List Reg8
  /-- A mask in F's layout. -/
  flags : Byte
  sp    : Bool
  pc    : Bool

/-- The writes that the bytes of an instruction name. -/
def instrWrites (i : Instr) : Writes where
  regs := regsWritten (instrByte i 0) (instrByte i 1)
  flags := flagsWritten (instrByte i 0) (instrByte i 1)
  sp := writesSP (instrByte i 0)
  pc := writesPC (instrByte i 0)

/-- v differs from s's F only in flags of the mask. -/
def State.FlagsWithin (mask : Byte) (s : State) (v : Byte) : Prop := (v ^^^ s.f) &&& 0xF0 &&& ~~~mask = 0

/-- t can be built from s with the writes w, storing to the addresses l in this order. -/
inductive Effect (w : Writes) (s : State) : List Word → State → Prop where
  | refl : Effect w s [] s
  | setR {l : List Word} {t : State} (h : Effect w s l t) (r : Reg8) (v : Byte) (hr : r ∈ w.regs) :
      Effect w s l (t.setR r v)
  | withF {l : List Word} {t : State} (h : Effect w s l t) (v : Byte) (hw : w.flags ≠ 0)
      (within : s.FlagsWithin w.flags v) : Effect w s l { t with f := v }
  | withSP {l : List Word} {t : State} (h : Effect w s l t) (v : Word) (hw : w.sp = true) :
      Effect w s l { t with sp := v }
  | withPC {l : List Word} {t : State} (h : Effect w s l t) (v : Word) (hw : w.pc = true) :
      Effect w s l { t with pc := v }
  /-- IME, ei_pending, the mode, the fault and IF, which exec_cases and the step tell apart. -/
  | control {l : List Word} {t : State} (h : Effect w s l t) (ime eiPending : Bool) (mode : Mode)
      (fault : Option InvalidOpcode) (ifr : BitVec 5) :
      Effect w s l { t with ime := ime, eiPending := eiPending, mode := mode, fault := fault, ifr := ifr }
  | tick {l : List Word} {t : State} (h : Effect w s l t) (n : Nat) : Effect w s l (t.tick n)
  | read {l : List Word} {t : State} (h : Effect w s l t) (x : Word) : Effect w s l (t.readEff x)
  | write {l : List Word} {t : State} (h : Effect w s l t) (x : Word) (v : Byte) :
      Effect w s (l ++ [x]) (t.busWrite x v)

/-! ### Flags within a mask -/

theorem Flags.and_F0_eq_toByte (v : Byte) : v &&& 0xF0 = (Flags.ofByte v).toByte := by
  revert v
  decide

theorem Flags.ofByte_xor (v v' : Byte) :
    Flags.ofByte (v ^^^ v') =
      { z := (Flags.ofByte v).z ^^ (Flags.ofByte v').z, n := (Flags.ofByte v).n ^^ (Flags.ofByte v').n
        h := (Flags.ofByte v).h ^^ (Flags.ofByte v').h, c := (Flags.ofByte v).c ^^ (Flags.ofByte v').c } := by
  simp only [Flags.ofByte, BitVec.getLsbD_xor]

theorem Flags.toByte_and_not (fl m : Flags) :
    fl.toByte &&& ~~~m.toByte =
      ({ z := fl.z && !m.z, n := fl.n && !m.n, h := fl.h && !m.h, c := fl.c && !m.c } : Flags).toByte := by
  obtain ⟨z, n, h, c⟩ := fl
  obtain ⟨mz, mn, mh, mc⟩ := m
  revert z n h c mz mn mh mc
  decide

/-- New flags that agree with the old ones outside a mask. -/
theorem State.flagsWithin_toByte {s : State} {fl : Flags} (m : Flags) (hz : m.z = true ∨ fl.z = s.flags.z)
    (hn : m.n = true ∨ fl.n = s.flags.n) (hh : m.h = true ∨ fl.h = s.flags.h) (hc : m.c = true ∨ fl.c = s.flags.c) :
    s.FlagsWithin m.toByte fl.toByte := by
  have kept : ∀ {x x' k : Bool}, k = true ∨ x = x' → ((x ^^ x') && !k) = false := by decide
  rw [State.FlagsWithin, Flags.and_F0_eq_toByte, Flags.ofByte_xor, Flags.ofByte_toByte, Flags.toByte_and_not]
  rw [← show s.flags = Flags.ofByte s.f from rfl, kept hz, kept hn, kept hh, kept hc]
  rfl

theorem State.flagsWithin_all (s : State) (v : Byte) : s.FlagsWithin 0xF0 v := by
  rw [State.FlagsWithin, BitVec.and_assoc]
  exact BitVec.and_zero

section
variable {s : State} {fl : Flags}

theorem State.flagsWithin_keepC (h : fl.c = s.flags.c) : s.FlagsWithin 0xE0 fl.toByte :=
  State.flagsWithin_toByte ⟨true, true, true, false⟩ (.inl rfl) (.inl rfl) (.inl rfl) (.inr h)

theorem State.flagsWithin_keepZ (h : fl.z = s.flags.z) : s.FlagsWithin 0x70 fl.toByte :=
  State.flagsWithin_toByte ⟨false, true, true, true⟩ (.inr h) (.inl rfl) (.inl rfl) (.inl rfl)

theorem State.flagsWithin_keepN (h : fl.n = s.flags.n) : s.FlagsWithin 0xB0 fl.toByte :=
  State.flagsWithin_toByte ⟨true, false, true, true⟩ (.inl rfl) (.inr h) (.inl rfl) (.inl rfl)

theorem State.flagsWithin_keepZC (hz : fl.z = s.flags.z) (hc : fl.c = s.flags.c) : s.FlagsWithin 0x60 fl.toByte :=
  State.flagsWithin_toByte ⟨false, true, true, false⟩ (.inr hz) (.inl rfl) (.inl rfl) (.inr hc)

end

/-! ### The shared operations -/

/-- The second address is the one above or the one below the first. -/
def Adjacent (x y : Word) : Prop := y = x + 1 ∨ y = x - 1

namespace Effect

variable {w : Writes} {s t : State} {l : List Word}

theorem setFlags (h : Effect w s l t) {fl : Flags} (hw : w.flags ≠ 0) (within : s.FlagsWithin w.flags fl.toByte) :
    Effect w s l (t.setFlags fl) := h.withF _ hw within

theorem setAllFlags (h : Effect w s l t) (fl : Flags) (hw : w.flags = 0xF0) : Effect w s l (t.setFlags fl) :=
  h.setFlags (by rw [hw]; decide) (by rw [hw]; exact s.flagsWithin_all _)

theorem setFlagsKeepC (h : Effect w s l t) {fl : Flags} (hw : w.flags = 0xE0) (hc : fl.c = s.flags.c) :
    Effect w s l (t.setFlags fl) :=
  h.setFlags (by rw [hw]; decide) (by rw [hw]; exact State.flagsWithin_keepC hc)

theorem setFlagsKeepZ (h : Effect w s l t) {fl : Flags} (hw : w.flags = 0x70) (hz : fl.z = s.flags.z) :
    Effect w s l (t.setFlags fl) :=
  h.setFlags (by rw [hw]; decide) (by rw [hw]; exact State.flagsWithin_keepZ hz)

theorem setFlagsKeepN (h : Effect w s l t) {fl : Flags} (hw : w.flags = 0xB0) (hn : fl.n = s.flags.n) :
    Effect w s l (t.setFlags fl) :=
  h.setFlags (by rw [hw]; decide) (by rw [hw]; exact State.flagsWithin_keepN hn)

theorem setFlagsKeepZC (h : Effect w s l t) {fl : Flags} (hw : w.flags = 0x60) (hz : fl.z = s.flags.z)
    (hc : fl.c = s.flags.c) : Effect w s l (t.setFlags fl) :=
  h.setFlags (by rw [hw]; decide) (by rw [hw]; exact State.flagsWithin_keepZC hz hc)

theorem setHL (h : Effect w s l t) (v : Word) (hh : .h ∈ w.regs) (hl : .l ∈ w.regs) : Effect w s l (t.setHL v) :=
  (h.setR .h (hiByte v) hh).setR .l (loByte v) hl

theorem setRR (h : Effect w s l t) {rr : Reg16} (v : Word) (hr : ∀ r ∈ pairRegs rr, r ∈ w.regs)
    (hsp : rr = .sp → w.sp = true) : Effect w s l (t.setRR rr v) := by
  cases rr with
  | bc => exact (h.setR .b (hiByte v) (hr _ (by decide))).setR .c (loByte v) (hr _ (by decide))
  | de => exact (h.setR .d (hiByte v) (hr _ (by decide))).setR .e (loByte v) (hr _ (by decide))
  | hl => exact h.setHL v (hr _ (by decide)) (hr _ (by decide))
  | sp => exact h.withSP v (hsp rfl)

theorem setStk (h : Effect w s l t) {rr : RegStk} (hi lo : Byte) (hr : ∀ r ∈ stkRegs rr, r ∈ w.regs)
    (hf : rr = .af → w.flags = 0xF0) : Effect w s l (t.setStk rr hi lo) := by
  cases rr with
  | bc => exact (h.setR .b hi (hr _ (by decide))).setR .c lo (hr _ (by decide))
  | de => exact (h.setR .d hi (hr _ (by decide))).setR .e lo (hr _ (by decide))
  | hl => exact (h.setR .h hi (hr _ (by decide))).setR .l lo (hr _ (by decide))
  | af =>
    have ha : Effect w s l { t with a := hi } := h.setR .a hi (hr _ (by decide))
    exact ha.withF _ (by rw [hf rfl]; decide) (by rw [hf rfl]; exact s.flagsWithin_all _)

/-- CP leaves A as it was (R272). -/
theorem applyAlu (h : Effect w s l t) {op : AluOp} (v : Byte) (hr : op ≠ .cp → .a ∈ w.regs) (hw : w.flags = 0xF0) :
    Effect w s l (t.applyAlu op v) := by
  by_cases hop : op = .cp
  · subst hop
    exact h.setAllFlags _ hw
  · exact (h.setR .a _ (hr hop)).setAllFlags _ hw

theorem store (h : Effect w s [] t) (x : Word) (v : Byte) : Effect w s [x] (t.busWrite x v) := h.write x v

theorem write16 (h : Effect w s [] t) (x : Word) (lo hi : Byte) : Effect w s [x, x + 1] (t.busWrite16 x lo hi) :=
  (h.store x lo).write (x + 1) hi

theorem push16 (h : Effect w s [] t) (hi lo : Byte) (hw : w.sp = true) :
    Effect w s [t.sp - 1, t.sp - 1 - 1] (t.push16 hi lo) := by
  have h1 : Effect w s [t.sp - 1] (t.pushByte hi) := (h.withSP (t.sp - 1) hw).store _ hi
  have h2 : Effect w s [t.sp - 1, (t.pushByte hi).sp - 1] (t.push16 hi lo) := (h1.withSP _ hw).write _ lo
  rwa [State.pushByte_sp] at h2

theorem callTo (h : Effect w s [] t) (target : Word) (hsp : w.sp = true) (hpc : w.pc = true) :
    Effect w s [t.sp - 1, t.sp - 1 - 1] (t.callTo target) := (h.push16 _ _ hsp).withPC target hpc

theorem popped16 (h : Effect w s l t) (hw : w.sp = true) : Effect w s l t.popped16 :=
  (((h.read t.sp).withSP _ hw).read _).withSP _ hw

theorem popPC (h : Effect w s l t) (hsp : w.sp = true) (hpc : w.pc = true) : Effect w s l t.popPC :=
  (h.popped16 hsp).withPC _ hpc

end Effect

theorem pairwise_adjacent_up (x : Word) : [x, x + 1].Pairwise Adjacent := by simp [Adjacent]

theorem pairwise_adjacent_down (x : Word) : [x, x - 1].Pairwise Adjacent := by simp [Adjacent]

/-! ### The form of a next state -/

/-- i answers a next state, built with the writes that its bytes name, at most two stores, and these at adjacent
addresses. -/
def HasEffect (i : Instr) (s : State) : Prop :=
  ∃ (t : State) (l : List Word), exec i s = .next t ∧ Effect (instrWrites i) s l t ∧ l.Pairwise Adjacent

section
variable {i : Instr} {s t : State} {w : Writes}

theorem HasEffect.noStore (hx : exec i s = .next t) (hw : instrWrites i = w) (h : Effect w s [] t) : HasEffect i s :=
  ⟨t, [], hx, hw ▸ h, .nil⟩

theorem HasEffect.oneStore {x : Word} (hx : exec i s = .next t) (hw : instrWrites i = w) (h : Effect w s [x] t) :
    HasEffect i s := ⟨t, [x], hx, hw ▸ h, List.pairwise_singleton _ _⟩

theorem HasEffect.twoStores {x y : Word} (hx : exec i s = .next t) (hw : instrWrites i = w) (h : Effect w s [x, y] t)
    (hl : [x, y].Pairwise Adjacent) : HasEffect i s := ⟨t, [x, y], hx, hw ▸ h, hl⟩

end

/-! ### The writes of a family

The bytes of each family name the registers, flags, SP and PC below. Where there is an operand it is not among the fields. -/

/-- Only a CB row's second byte is a field: any other instruction names what another with its first byte names. -/
theorem instrWrites_of_firstByte {i : Instr} (j : Instr) {w : Writes} (h0 : instrByte i 0 = instrByte j 0)
    (hj : instrByte j 0 ≠ 0xCB) (hw : instrWrites j = w) : instrWrites i = w := by
  rw [← hw]
  simp only [instrWrites, h0, regsWritten, flagsWritten, hj, false_and, if_false, ne_eq, not_false_iff, if_true]

theorem instrWrites_ldRegReg (r r' : Reg8) :
    instrWrites (.ldRegReg r r') = ⟨[r], 0, false, false⟩ := by
  cases r <;> cases r' <;> rfl

theorem instrWrites_ldRegImm (r : Reg8) (n : Byte) :
    instrWrites (.ldRegImm r n) = ⟨[r], 0, false, false⟩ := by
  refine instrWrites_of_firstByte (.ldRegImm r 0) ?_ ?_ ?_
  · cases r <;> rfl
  · cases r <;> decide
  · cases r <;> rfl

theorem instrWrites_ldRegAtHL (r : Reg8) :
    instrWrites (.ldRegAtHL r) = ⟨[r], 0, false, false⟩ := by
  cases r <;> rfl

theorem instrWrites_ldAtHLReg (r : Reg8) :
    instrWrites (.ldAtHLReg r) = ⟨[], 0, false, false⟩ := by
  cases r <;> rfl

theorem instrWrites_ldPairImm (rr : Reg16) (nn : Word) :
    instrWrites (.ldPairImm rr nn) = ⟨pairRegs rr, 0, decide (rr = .sp), false⟩ := by
  refine instrWrites_of_firstByte (.ldPairImm rr 0) ?_ ?_ ?_
  · cases rr <;> rfl
  · cases rr <;> decide
  · cases rr <;> rfl

theorem instrWrites_pushPair (rr : RegStk) :
    instrWrites (.pushPair rr) = ⟨[], 0, true, false⟩ := by
  cases rr <;> rfl

theorem instrWrites_popPair (rr : RegStk) :
    instrWrites (.popPair rr) = ⟨stkRegs rr, if rr = .af then 0xF0 else 0, true, false⟩ := by
  cases rr <;> rfl

theorem instrWrites_addHLPair (rr : Reg16) :
    instrWrites (.addHLPair rr) = ⟨[.h, .l], 0x70, false, false⟩ := by
  cases rr <;> rfl

theorem instrWrites_incPair (rr : Reg16) :
    instrWrites (.incPair rr) = ⟨pairRegs rr, 0, decide (rr = .sp), false⟩ := by
  cases rr <;> rfl

theorem instrWrites_decPair (rr : Reg16) :
    instrWrites (.decPair rr) = ⟨pairRegs rr, 0, decide (rr = .sp), false⟩ := by
  cases rr <;> rfl

theorem instrWrites_aluReg (op : AluOp) (r : Reg8) :
    instrWrites (.aluReg op r) = ⟨if op = .cp then [] else [.a], 0xF0, false, false⟩ := by
  cases op <;> cases r <;> rfl

theorem instrWrites_aluAtHL (op : AluOp) :
    instrWrites (.aluAtHL op) = ⟨if op = .cp then [] else [.a], 0xF0, false, false⟩ := by
  cases op <;> rfl

theorem instrWrites_aluImm (op : AluOp) (n : Byte) :
    instrWrites (.aluImm op n) = ⟨if op = .cp then [] else [.a], 0xF0, false, false⟩ := by
  refine instrWrites_of_firstByte (.aluImm op 0) ?_ ?_ ?_
  · cases op <;> rfl
  · cases op <;> decide
  · cases op <;> rfl

theorem instrWrites_incReg (r : Reg8) :
    instrWrites (.incReg r) = ⟨[r], 0xE0, false, false⟩ := by
  cases r <;> rfl

theorem instrWrites_decReg (r : Reg8) :
    instrWrites (.decReg r) = ⟨[r], 0xE0, false, false⟩ := by
  cases r <;> rfl

theorem instrWrites_rotReg (op : RotOp) (r : Reg8) :
    instrWrites (.rotReg op r) = ⟨[r], 0xF0, false, false⟩ := by
  cases op <;> cases r <;> rfl

theorem instrWrites_rotAtHL (op : RotOp) :
    instrWrites (.rotAtHL op) = ⟨[], 0xF0, false, false⟩ := by
  cases op <;> rfl

theorem instrWrites_bitReg (k : Fin 8) (r : Reg8) :
    instrWrites (.bitReg k r) = ⟨[], 0xE0, false, false⟩ := by
  fin_cases k <;> cases r <;> rfl

theorem instrWrites_bitAtHL (k : Fin 8) :
    instrWrites (.bitAtHL k) = ⟨[], 0xE0, false, false⟩ := by
  fin_cases k <;> rfl

theorem instrWrites_resReg (k : Fin 8) (r : Reg8) :
    instrWrites (.resReg k r) = ⟨[r], 0, false, false⟩ := by
  fin_cases k <;> cases r <;> rfl

theorem instrWrites_resAtHL (k : Fin 8) :
    instrWrites (.resAtHL k) = ⟨[], 0, false, false⟩ := by
  fin_cases k <;> rfl

theorem instrWrites_setReg (k : Fin 8) (r : Reg8) :
    instrWrites (.setReg k r) = ⟨[r], 0, false, false⟩ := by
  fin_cases k <;> cases r <;> rfl

theorem instrWrites_setAtHL (k : Fin 8) :
    instrWrites (.setAtHL k) = ⟨[], 0, false, false⟩ := by
  fin_cases k <;> rfl

theorem instrWrites_jpCond (cc : Cond) (nn : Word) :
    instrWrites (.jpCond cc nn) = ⟨[], 0, false, true⟩ := by
  refine instrWrites_of_firstByte (.jpCond cc 0) ?_ ?_ ?_
  · cases cc <;> rfl
  · cases cc <;> decide
  · cases cc <;> rfl

theorem instrWrites_jrCond (cc : Cond) (n : Byte) :
    instrWrites (.jrCond cc n) = ⟨[], 0, false, true⟩ := by
  refine instrWrites_of_firstByte (.jrCond cc 0) ?_ ?_ ?_
  · cases cc <;> rfl
  · cases cc <;> decide
  · cases cc <;> rfl

theorem instrWrites_callCond (cc : Cond) (nn : Word) :
    instrWrites (.callCond cc nn) = ⟨[], 0, true, true⟩ := by
  refine instrWrites_of_firstByte (.callCond cc 0) ?_ ?_ ?_
  · cases cc <;> rfl
  · cases cc <;> decide
  · cases cc <;> rfl

theorem instrWrites_retCond (cc : Cond) :
    instrWrites (.retCond cc) = ⟨[], 0, true, true⟩ := by
  cases cc <;> rfl

theorem instrWrites_rst (k : Fin 8) :
    instrWrites (.rst k) = ⟨[], 0, true, true⟩ := by
  fin_cases k <;> rfl

/-! ### Every instruction -/

open HasEffect (noStore oneStore twoStores)

/-- Every instruction does only what its encoding names. -/
theorem exec_effect (i : Instr) : ∀ s : State, HasEffect i s := by
  cases i using Instr.byFamily
  case ldRegReg r r' =>
    exact fun s => noStore (exec_ldRegReg r r' s) (instrWrites_ldRegReg r r')
      ((Effect.refl.setR r _ (.head _)).tick _)
  case ldRegImm r n =>
    exact fun s => noStore (exec_ldRegImm r n s) (instrWrites_ldRegImm r n)
      ((Effect.refl.setR r n (.head _)).tick _)
  case ldRegAtHL r =>
    exact fun s => noStore (exec_ldRegAtHL r s) (instrWrites_ldRegAtHL r)
      (((Effect.refl.read _).setR r _ (.head _)).tick _)
  case ldAtHLReg r =>
    exact fun s => oneStore (exec_ldAtHLReg r s) (instrWrites_ldAtHLReg r)
      ((Effect.refl.store _ _).tick _)
  case ldPairImm rr nn =>
    exact fun s => noStore (exec_ldPairImm rr nn s) (instrWrites_ldPairImm rr nn)
      ((Effect.refl.setRR nn (fun _ h => h) decide_eq_true).tick _)
  case pushPair rr =>
    exact fun s => twoStores (exec_pushPair rr s) (instrWrites_pushPair rr)
      ((Effect.refl.push16 _ _ rfl).tick _) (pairwise_adjacent_down _)
  case popPair rr =>
    exact fun s => noStore (exec_popPair rr s) (instrWrites_popPair rr)
      (((Effect.refl.popped16 rfl).setStk _ _ (fun _ h => h) (fun h => if_pos h)).tick _)
  case addHLPair rr =>
    exact fun s => noStore (exec_addHLPair rr s) (instrWrites_addHLPair rr)
      (((Effect.refl.setHL _ (by decide) (by decide)).setFlagsKeepZ rfl (by rfl)).tick _)
  case incPair rr =>
    exact fun s => noStore (exec_incPair rr s) (instrWrites_incPair rr)
      ((Effect.refl.setRR _ (fun _ h => h) decide_eq_true).tick _)
  case decPair rr =>
    exact fun s => noStore (exec_decPair rr s) (instrWrites_decPair rr)
      ((Effect.refl.setRR _ (fun _ h => h) decide_eq_true).tick _)
  case aluReg op r =>
    exact fun s => noStore (exec_aluReg op r s) (instrWrites_aluReg op r)
      ((Effect.refl.applyAlu _ (fun h => by simp [h]) rfl).tick _)
  case aluAtHL op =>
    exact fun s => noStore (exec_aluAtHL op s) (instrWrites_aluAtHL op)
      (((Effect.refl.read _).applyAlu _ (fun h => by simp [h]) rfl).tick _)
  case aluImm op n =>
    exact fun s => noStore (exec_aluImm op n s) (instrWrites_aluImm op n)
      ((Effect.refl.applyAlu n (fun h => by simp [h]) rfl).tick _)
  case incReg r =>
    exact fun s => noStore (exec_incReg r s) (instrWrites_incReg r)
      (((Effect.refl.setR r _ (.head _)).setFlagsKeepC rfl (by rfl)).tick _)
  case decReg r =>
    exact fun s => noStore (exec_decReg r s) (instrWrites_decReg r)
      (((Effect.refl.setR r _ (.head _)).setFlagsKeepC rfl (by rfl)).tick _)
  case rotReg op r =>
    exact fun s => noStore (exec_rotReg op r s) (instrWrites_rotReg op r)
      (((Effect.refl.setR r _ (.head _)).setAllFlags _ rfl).tick _)
  case rotAtHL op =>
    exact fun s => oneStore (exec_rotAtHL op s) (instrWrites_rotAtHL op)
      ((((Effect.refl.read _).store _ _).setAllFlags _ rfl).tick _)
  case bitReg k r =>
    exact fun s => noStore (exec_bitReg k r s) (instrWrites_bitReg k r)
      ((Effect.refl.setFlagsKeepC rfl (by rfl)).tick _)
  case bitAtHL k =>
    exact fun s => noStore (exec_bitAtHL k s) (instrWrites_bitAtHL k)
      (((Effect.refl.read _).setFlagsKeepC rfl (by rfl)).tick _)
  case resReg k r =>
    exact fun s => noStore (exec_resReg k r s) (instrWrites_resReg k r)
      ((Effect.refl.setR r _ (.head _)).tick _)
  case resAtHL k =>
    exact fun s => oneStore (exec_resAtHL k s) (instrWrites_resAtHL k)
      (((Effect.refl.read _).store _ _).tick _)
  case setReg k r =>
    exact fun s => noStore (exec_setReg k r s) (instrWrites_setReg k r)
      ((Effect.refl.setR r _ (.head _)).tick _)
  case setAtHL k =>
    exact fun s => oneStore (exec_setAtHL k s) (instrWrites_setAtHL k)
      (((Effect.refl.read _).store _ _).tick _)
  case jpCond cc nn =>
    intro s
    have hx := exec_jpCond cc nn s
    rw [jumpIf] at hx
    split at hx
    · exact noStore hx (instrWrites_jpCond cc nn) ((Effect.refl.withPC _ rfl).tick _)
    · exact noStore hx (instrWrites_jpCond cc nn) (Effect.refl.tick _)
  case jrCond cc n =>
    intro s
    have hx := exec_jrCond cc n s
    rw [jumpRelativeIf] at hx
    split at hx
    · exact noStore hx (instrWrites_jrCond cc n) ((Effect.refl.withPC _ rfl).tick _)
    · exact noStore hx (instrWrites_jrCond cc n) (Effect.refl.tick _)
  case callCond cc nn =>
    intro s
    have hx := exec_callCond cc nn s
    rw [callIf] at hx
    split at hx
    · exact twoStores hx (instrWrites_callCond cc nn) ((Effect.refl.callTo _ rfl rfl).tick _) (pairwise_adjacent_down _)
    · exact noStore hx (instrWrites_callCond cc nn) (Effect.refl.tick _)
  case retCond cc =>
    intro s
    have hx := exec_retCond cc s
    rw [returnIf] at hx
    split at hx
    · exact noStore hx (instrWrites_retCond cc) ((Effect.refl.popPC rfl rfl).tick _)
    · exact noStore hx (instrWrites_retCond cc) (Effect.refl.tick _)
  case rst k =>
    exact fun s => twoStores (exec_rst k s) (instrWrites_rst k)
      ((Effect.refl.callTo _ rfl rfl).tick _) (pairwise_adjacent_down _)
  case invalid op => exact fun s => noStore rfl rfl (Effect.refl.control s.ime s.eiPending s.mode _ s.ifr)
  case nop => exact fun s => noStore (w := ⟨[], 0, false, false⟩) rfl rfl (Effect.refl.tick _)
  case ld_atBC_a => exact fun s => oneStore (w := ⟨[], 0, false, false⟩) rfl rfl ((Effect.refl.store _ _).tick _)
  case rlca =>
    exact fun s => noStore (w := ⟨[.a], 0xF0, false, false⟩) rfl rfl
      (((Effect.refl.setR .a _ (.head _)).setAllFlags _ rfl).tick _)
  case ld_atNN_sp _ =>
    exact fun s => twoStores (w := ⟨[], 0, false, false⟩) rfl
      (instrWrites_of_firstByte (.ld_atNN_sp 0) rfl (by decide) rfl)
      ((Effect.refl.write16 _ _ _).tick _) (pairwise_adjacent_up _)
  case ld_a_atBC =>
    exact fun s => noStore (w := ⟨[.a], 0, false, false⟩) rfl rfl
      (((Effect.refl.read _).setR .a _ (.head _)).tick _)
  case rrca =>
    exact fun s => noStore (w := ⟨[.a], 0xF0, false, false⟩) rfl rfl
      (((Effect.refl.setR .a _ (.head _)).setAllFlags _ rfl).tick _)
  case stop _ =>
    exact fun s => noStore (w := ⟨[], 0, false, false⟩) rfl
      (instrWrites_of_firstByte (.stop 0) rfl (by decide) rfl)
      ((Effect.refl.control s.ime s.eiPending _ s.fault s.ifr).tick _)
  case ld_atDE_a => exact fun s => oneStore (w := ⟨[], 0, false, false⟩) rfl rfl ((Effect.refl.store _ _).tick _)
  case rla =>
    exact fun s => noStore (w := ⟨[.a], 0xF0, false, false⟩) rfl rfl
      (((Effect.refl.setR .a _ (.head _)).setAllFlags _ rfl).tick _)
  case jr_e _ =>
    exact fun s => noStore (w := ⟨[], 0, false, true⟩) rfl
      (instrWrites_of_firstByte (.jr_e 0) rfl (by decide) rfl)
      ((Effect.refl.withPC _ rfl).tick _)
  case ld_a_atDE =>
    exact fun s => noStore (w := ⟨[.a], 0, false, false⟩) rfl rfl
      (((Effect.refl.read _).setR .a _ (.head _)).tick _)
  case rra =>
    exact fun s => noStore (w := ⟨[.a], 0xF0, false, false⟩) rfl rfl
      (((Effect.refl.setR .a _ (.head _)).setAllFlags _ rfl).tick _)
  case ld_atHLinc_a =>
    exact fun s => oneStore (w := ⟨[.h, .l], 0, false, false⟩) rfl rfl
      (((Effect.refl.store _ _).setHL _ (by decide) (by decide)).tick _)
  case daa =>
    exact fun s => noStore (w := ⟨[.a], 0xB0, false, false⟩) rfl rfl
      (((Effect.refl.setR .a _ (.head _)).setFlagsKeepN rfl (by rfl)).tick _)
  case ld_a_atHLinc =>
    exact fun s => noStore (w := ⟨[.a, .h, .l], 0, false, false⟩) rfl rfl
      ((((Effect.refl.read _).setR .a _ (.head _)).setHL _ (by decide) (by decide)).tick _)
  case cpl =>
    exact fun s => noStore (w := ⟨[.a], 0x60, false, false⟩) rfl rfl
      (((Effect.refl.setR .a _ (.head _)).setFlagsKeepZC rfl (by rfl) (by rfl)).tick _)
  case ld_atHLdec_a =>
    exact fun s => oneStore (w := ⟨[.h, .l], 0, false, false⟩) rfl rfl
      (((Effect.refl.store _ _).setHL _ (by decide) (by decide)).tick _)
  case inc_atHL =>
    exact fun s => oneStore (w := ⟨[], 0xE0, false, false⟩) rfl rfl
      ((((Effect.refl.read _).store _ _).setFlagsKeepC rfl (by rfl)).tick _)
  case dec_atHL =>
    exact fun s => oneStore (w := ⟨[], 0xE0, false, false⟩) rfl rfl
      ((((Effect.refl.read _).store _ _).setFlagsKeepC rfl (by rfl)).tick _)
  case ld_atHL_n _ =>
    exact fun s => oneStore (w := ⟨[], 0, false, false⟩) rfl
      (instrWrites_of_firstByte (.ld_atHL_n 0) rfl (by decide) rfl)
      ((Effect.refl.store _ _).tick _)
  case scf =>
    exact fun s => noStore (w := ⟨[], 0x70, false, false⟩) rfl rfl
      ((Effect.refl.setFlagsKeepZ rfl (by rfl)).tick _)
  case ld_a_atHLdec =>
    exact fun s => noStore (w := ⟨[.a, .h, .l], 0, false, false⟩) rfl rfl
      ((((Effect.refl.read _).setR .a _ (.head _)).setHL _ (by decide) (by decide)).tick _)
  case ccf =>
    exact fun s => noStore (w := ⟨[], 0x70, false, false⟩) rfl rfl
      ((Effect.refl.setFlagsKeepZ rfl (by rfl)).tick _)
  case halt =>
    exact fun s => noStore (w := ⟨[], 0, false, false⟩) rfl rfl
      ((Effect.refl.control s.ime s.eiPending _ s.fault s.ifr).tick _)
  case jp_nn _ =>
    exact fun s => noStore (w := ⟨[], 0, false, true⟩) rfl
      (instrWrites_of_firstByte (.jp_nn 0) rfl (by decide) rfl)
      ((Effect.refl.withPC _ rfl).tick _)
  case ret => exact fun s => noStore (w := ⟨[], 0, true, true⟩) rfl rfl ((Effect.refl.popPC rfl rfl).tick _)
  case call_nn _ =>
    exact fun s => twoStores (w := ⟨[], 0, true, true⟩) rfl
      (instrWrites_of_firstByte (.call_nn 0) rfl (by decide) rfl)
      ((Effect.refl.callTo _ rfl rfl).tick _) (pairwise_adjacent_down _)
  case reti =>
    exact fun s => noStore (w := ⟨[], 0, true, true⟩) rfl rfl
      (((Effect.refl.popPC rfl rfl).control true _ _ _ _).tick _)
  case ldh_atN_a _ =>
    exact fun s => oneStore (w := ⟨[], 0, false, false⟩) rfl
      (instrWrites_of_firstByte (.ldh_atN_a 0) rfl (by decide) rfl)
      ((Effect.refl.store _ _).tick _)
  case ldh_atC_a => exact fun s => oneStore (w := ⟨[], 0, false, false⟩) rfl rfl ((Effect.refl.store _ _).tick _)
  case add_sp_e _ =>
    exact fun s => noStore (w := ⟨[], 0xF0, true, false⟩) rfl
      (instrWrites_of_firstByte (.add_sp_e 0) rfl (by decide) rfl)
      (((Effect.refl.withSP _ rfl).setAllFlags _ rfl).tick _)
  case jp_hl => exact fun s => noStore (w := ⟨[], 0, false, true⟩) rfl rfl ((Effect.refl.withPC _ rfl).tick _)
  case ld_atNN_a _ =>
    exact fun s => oneStore (w := ⟨[], 0, false, false⟩) rfl
      (instrWrites_of_firstByte (.ld_atNN_a 0) rfl (by decide) rfl)
      ((Effect.refl.store _ _).tick _)
  case ldh_a_atN _ =>
    exact fun s => noStore (w := ⟨[.a], 0, false, false⟩) rfl
      (instrWrites_of_firstByte (.ldh_a_atN 0) rfl (by decide) rfl)
      (((Effect.refl.read _).setR .a _ (.head _)).tick _)
  case ldh_a_atC =>
    exact fun s => noStore (w := ⟨[.a], 0, false, false⟩) rfl rfl
      (((Effect.refl.read _).setR .a _ (.head _)).tick _)
  case di =>
    exact fun s => noStore (w := ⟨[], 0, false, false⟩) rfl rfl
      ((Effect.refl.control _ _ s.mode s.fault s.ifr).tick _)
  case ld_hl_spPlusE _ =>
    exact fun s => noStore (w := ⟨[.h, .l], 0xF0, false, false⟩) rfl
      (instrWrites_of_firstByte (.ld_hl_spPlusE 0) rfl (by decide) rfl)
      (((Effect.refl.setHL _ (by decide) (by decide)).setAllFlags _ rfl).tick _)
  case ld_sp_hl => exact fun s => noStore (w := ⟨[], 0, true, false⟩) rfl rfl ((Effect.refl.withSP _ rfl).tick _)
  case ld_a_atNN _ =>
    exact fun s => noStore (w := ⟨[.a], 0, false, false⟩) rfl
      (instrWrites_of_firstByte (.ld_a_atNN 0) rfl (by decide) rfl)
      (((Effect.refl.read _).setR .a _ (.head _)).tick _)
  case ei =>
    exact fun s => noStore (w := ⟨[], 0, false, false⟩) rfl rfl
      ((Effect.refl.control s.ime _ s.mode s.fault s.ifr).tick _)

end Sys2Proof.Machine

namespace Sys2Proof.Machine

/-! ## The frame of an instruction (R32, R33, R37, R39 to R43) -/

section
variable (r : Reg8) (s : State)

@[simp] theorem State.getR_withF (v : Byte) : ({ s with f := v } : State).getR r = s.getR r := by cases r <;> rfl

@[simp] theorem State.getR_withSP (v : Word) : ({ s with sp := v } : State).getR r = s.getR r := by cases r <;> rfl

@[simp] theorem State.getR_withPC (v : Word) : ({ s with pc := v } : State).getR r = s.getR r := by cases r <;> rfl

@[simp] theorem State.getR_withControl (ime eiPending : Bool) (mode : Mode) (fault : Option InvalidOpcode)
    (ifr : BitVec 5) :
    ({ s with ime := ime, eiPending := eiPending, mode := mode, fault := fault, ifr := ifr } : State).getR r =
      s.getR r := by
  cases r <;> rfl

@[simp] theorem State.getR_tick (n : Nat) : (s.tick n).getR r = s.getR r := by cases r <;> rfl

end

/-- From s to t no register, flag, SP or PC outside w has changed. -/
structure State.ChangesOnly (w : Writes) (s t : State) : Prop where
  regs  : ∀ r, r ∉ w.regs → t.getR r = s.getR r
  flags : s.FlagsWithin w.flags t.f
  f     : w.flags = 0 → t.f = s.f
  sp    : w.sp = false → t.sp = s.sp
  pc    : w.pc = false → t.pc = s.pc

theorem Effect.changesOnly {w : Writes} {s t : State} {l : List Word} (h : Effect w s l t) : s.ChangesOnly w t := by
  induction h with
  | refl =>
    exact ⟨fun _ _ => rfl, by simp [State.FlagsWithin], fun _ => rfl, fun _ => rfl, fun _ => rfl⟩
  | @setR l t _ r v hr ih =>
    refine ⟨fun r' hr' => ?_, by simpa using ih.flags, by simpa using ih.f, by simpa using ih.sp, by simpa using ih.pc⟩
    have hne : r' ≠ r := fun h => hr' (h ▸ hr)
    rw [State.getR_setR_other hne, ih.regs r' hr']
  | withF _ v hw within ih =>
    exact ⟨by simpa using ih.regs, within, fun h => absurd h hw, ih.sp, ih.pc⟩
  | withSP _ v hw ih =>
    exact ⟨by simpa using ih.regs, ih.flags, ih.f, fun h => by simp [hw] at h, ih.pc⟩
  | withPC _ v hw ih =>
    exact ⟨by simpa using ih.regs, ih.flags, ih.f, ih.sp, fun h => by simp [hw] at h⟩
  | control _ _ _ _ _ _ ih => exact ⟨by simpa using ih.regs, ih.flags, ih.f, ih.sp, ih.pc⟩
  | tick _ n ih => exact ⟨by simpa using ih.regs, ih.flags, ih.f, ih.sp, ih.pc⟩
  | read _ x ih =>
    exact ⟨by simpa using ih.regs, by simpa using ih.flags, by simpa using ih.f, by simpa using ih.sp,
      by simpa using ih.pc⟩
  | write _ x v ih =>
    exact ⟨by simpa using ih.regs, by simpa using ih.flags, by simpa using ih.f, by simpa using ih.sp,
      by simpa using ih.pc⟩

/-- IME, ei_pending, the mode and the fault are those of s. -/
structure State.SameControl (s t : State) : Prop where
  ime       : t.ime = s.ime
  eiPending : t.eiPending = s.eiPending
  mode      : t.mode = s.mode
  fault     : t.fault = s.fault

theorem Ordinary.sameControl {s t : State} (h : Ordinary s t) : s.SameControl t := by
  induction h with
  | refl => exact ⟨rfl, rfl, rfl, rfl⟩
  | regs _ same _ ih => rw [same]; exact ⟨ih.ime, ih.eiPending, ih.mode, ih.fault⟩
  | flags _ same _ ih => rw [same]; exact ⟨ih.ime, ih.eiPending, ih.mode, ih.fault⟩
  | read _ x ih => exact ⟨by simp [ih.ime], by simp [ih.eiPending], by simp [ih.mode], by simp [ih.fault]⟩
  | write _ x v ih => exact ⟨by simp [ih.ime], by simp [ih.eiPending], by simp [ih.mode], by simp [ih.fault]⟩

section
variable {i : Instr} {s t : State}

/-- DI clears IME and RETI sets it; no other instruction changes it (R39, R308, R376). -/
theorem exec_ime (h : exec i s = .next t) :
    t.ime = s.ime ∨ (i = .di ∧ t.ime = false) ∨ (i = .reti ∧ t.ime = true) := by
  obtain ⟨-, hord⟩ | ⟨-, rfl⟩ | ⟨-, rfl⟩ | ⟨hi, rfl⟩ | ⟨-, rfl⟩ | ⟨hi, rfl⟩ | ⟨op, -, rfl⟩ := exec_cases h
  · exact .inl hord.sameControl.ime
  · exact .inl rfl
  · exact .inl rfl
  · exact .inr (.inl ⟨hi, rfl⟩)
  · exact .inl rfl
  · exact .inr (.inr ⟨hi, rfl⟩)
  · exact .inl rfl

theorem exec_eiPending (h : exec i s = .next t) (hdi : i ≠ .di) (hei : i ≠ .ei) : t.eiPending = s.eiPending := by
  obtain ⟨-, hord⟩ | ⟨-, rfl⟩ | ⟨-, rfl⟩ | ⟨hi, -⟩ | ⟨hi, -⟩ | ⟨-, rfl⟩ | ⟨op, -, rfl⟩ := exec_cases h
  · exact hord.sameControl.eiPending
  · rfl
  · rfl
  · exact absurd hi hdi
  · exact absurd hi hei
  · simp [State.returnFromInterrupt]
  · rfl

theorem exec_mode (h : exec i s = .next t) (hhalt : i ≠ .halt) (hstop : ∀ n, i ≠ .stop n) : t.mode = s.mode := by
  obtain ⟨-, hord⟩ | ⟨hi, -⟩ | ⟨⟨n, hi⟩, -⟩ | ⟨-, rfl⟩ | ⟨-, rfl⟩ | ⟨-, rfl⟩ | ⟨op, -, rfl⟩ := exec_cases h
  · exact hord.sameControl.mode
  · exact absurd hi hhalt
  · exact absurd hi (hstop n)
  · rfl
  · rfl
  · simp [State.returnFromInterrupt]
  · rfl

theorem exec_fault (h : exec i s = .next t) (hinv : ∀ op, i ≠ .invalid op) : t.fault = s.fault := by
  obtain ⟨-, hord⟩ | ⟨-, rfl⟩ | ⟨-, rfl⟩ | ⟨-, rfl⟩ | ⟨-, rfl⟩ | ⟨-, rfl⟩ | ⟨op, hi, -⟩ := exec_cases h
  · exact hord.sameControl.fault
  · rfl
  · rfl
  · rfl
  · rfl
  · simp [State.returnFromInterrupt]
  · exact absurd hi (hinv op)

theorem exec_changesOnly (h : exec i s = .next t) : s.ChangesOnly (instrWrites i) t := by
  obtain ⟨t', l, ht', heff, -⟩ := exec_effect i s
  rw [h] at ht'
  cases ht'
  exact heff.changesOnly

end

/-- Settles O28: registers, flags, SP and PC by what Effect builds the next state from, the control state by the six
instructions that change it. -/
theorem instructionFrame : Obligations.InstructionFrame := by
  unfold Obligations.InstructionFrame
  intro i s t h
  have hc := exec_changesOnly h
  have hcfg := State.SameConfig.of_exec h
  refine ⟨hc.regs, hc.flags, hc.f, hc.sp, hc.pc, fun hdi hreti => ?_, exec_eiPending h, exec_mode h, exec_fault h,
    hcfg.cfg, hcfg.cart⟩
  obtain hime | ⟨hi, -⟩ | ⟨hi, -⟩ := exec_ime h
  · exact hime
  · exact absurd hi hdi
  · exact absurd hi hreti

/-! ## The events that change IME (R39, R402, R421) -/

/-! ### The byte fetched -/

theorem instrByte_decodeCB (n : Byte) : instrByte (decodeCB n) 0 = 0xCB := by
  revert n
  decide

/-- Cell by cell, the map of R171 holds an instruction whose encoding begins with the cell's byte. -/
theorem mapRows_firstBytes (n : Byte) (nn : Word) :
    (mapRows n nn).map (List.map (instrByte · 0)) =
      (List.range 16).map fun row => (List.range 16).map fun col => BitVec.ofNat 8 (16 * row + col) := by
  have hcb := instrByte_decodeCB n
  simp only [mapRows, mapRowC, List.map, hcb]
  rfl

/-- The encoding of what the maps give begins with the opcode byte (R171, R172). -/
theorem instrByte_decodeBytes (op b1 b2 : Byte) : instrByte (decodeBytes op b1 b2) 0 = op := by
  have hop := op.isLt
  have hrows := congrArg (·[op.toNat / 16]?) (mapRows_firstBytes b1 (ofBytes b2 b1))
  simp only [List.getElem?_map, List.getElem?_range (show op.toNat / 16 < 16 by omega), Option.map_some] at hrows
  unfold decodeBytes
  split
  next row hrow =>
    rw [hrow] at hrows
    have hcol := congrArg (·[op.toNat % 16]?) (Option.some.inj hrows)
    simp only [List.getElem?_map, List.getElem?_range (show op.toNat % 16 < 16 by omega), Option.map_some] at hcol
    obtain ⟨i, hi, hbyte⟩ := Option.map_eq_some_iff.mp hcol
    rw [hi, Option.getD_some, hbyte, show 16 * (op.toNat / 16) + op.toNat % 16 = op.toNat by omega]
    simp
  next hrow => simp [hrow] at hrows

theorem State.fetch_fst (s : State) : ∃ b1 b2, s.fetch.1 = decodeBytes (s.readVal s.pc) b1 b2 := by
  by_cases h : s.readVal s.pc ∈ reservedOpcodes
  · exact ⟨_, _, by rw [State.fetch_reserved h]⟩
  · cases hl : opLength (s.readVal s.pc) with
    | one => exact ⟨_, _, by rw [State.fetch_one h hl]⟩
    | two => exact ⟨_, _, by rw [State.fetch_two h hl]⟩
    | three => exact ⟨_, _, by rw [State.fetch_three h hl]⟩

/-- The instruction fetched has the byte at PC as its first. -/
theorem State.instrByte_fetch (s : State) : instrByte s.fetch.1 0 = s.readVal s.pc := by
  obtain ⟨b1, b2, h⟩ := s.fetch_fst
  rw [h, instrByte_decodeBytes]

@[simp] theorem State.fetch_ime (s : State) : s.fetch.2.ime = s.ime := by
  obtain ⟨-, h⟩ | ⟨-, h | h | h⟩ := s.fetch_state <;> rw [h] <;> simp

@[simp] theorem State.readVal_wake (a : Word) (s : State) : s.wake.readVal a = s.readVal a := by
  unfold State.wake
  split <;> rfl

/-! ### The other parts of a step -/

@[simp] theorem State.dispatch_ime (k : Fin 5) (s : State) : (s.dispatch k).ime = false := by simp [State.dispatch]

theorem State.commitEi_ime (p : Bool) (s : State) : (s.commitEi p).ime = (s.ime || (p && s.eiPending)) := by
  unfold State.commitEi
  cases p <;> cases he : s.eiPending <;> simp

/-- What is dispatched is a request, and a request has woken the CPU (R412, R430). -/
theorem State.wake_mode_of_takes {s : State} {k : Fin 5} (h : s.wake.takes = some k) : s.wake.mode ≠ .halted := by
  by_cases hw : s.mode = .halted ∧ s.ifr ≠ 0
  · simp [State.wake_eq_running hw]
  · rw [State.wake_eq_self hw] at h ⊢
    intro hm
    have hifr : s.ifr = 0 := by_contra fun hne => hw ⟨hm, hne⟩
    simp [State.takes, State.pending, hifr] at h

/-- Settles O39: among the four kinds of step only a dispatch and an instruction touch IME, and the latter by RETI, DI or
the EI commit. -/
theorem onlyTheseEventsChangeIme : Obligations.OnlyTheseEventsChangeIme := by
  unfold Obligations.OnlyTheseEventsChangeIme
  intro s t h
  obtain ⟨-, ⟨-, rfl⟩ | ⟨hm, k, hk, rfl⟩ | ⟨-, -, -, rfl⟩ | ⟨hm, htk, hmode, u, hexec, ⟨-, rfl⟩ | ⟨-, rfl⟩⟩⟩ := step_cases h
  case inl => exact ⟨fun h0 h1 => by simp [h0] at h1, fun h1 h0 => by simp [h1] at h0⟩
  case inr.inl =>
    refine ⟨fun _ h1 => by simp at h1, fun _ _ => ⟨.inl (by simp [hk]), State.wake_mode_of_takes hk, hm⟩⟩
  case inr.inr.inl => exact ⟨fun h0 h1 => by simp [h0] at h1, fun h1 h0 => by simp [h1] at h0⟩
  case inr.inr.inr.inl => exact ⟨fun h0 h1 => by simp [h0] at h1, fun h1 h0 => by simp [h1] at h0⟩
  case inr.inr.inr.inr =>
    have hbyte := s.wake.instrByte_fetch
    have hu := exec_ime hexec
    rw [State.readVal_wake, State.wake_pc] at hbyte
    rw [State.fetch_ime, State.wake_ime] at hu
    rw [State.commitEi_ime]
    refine ⟨fun h0 h1 => ⟨htk, ?_, hmode, hm⟩, fun h1 h0 => ⟨.inr ?_, hmode, hm⟩⟩
    · have hcommit : u.ime = false → s.eiPending = true := fun hf => by
        rw [hf, Bool.false_or, Bool.and_eq_true] at h1
        exact h1.1
      obtain hu | ⟨-, hu⟩ | ⟨hi, -⟩ := hu
      · exact .inl (hcommit (hu.trans h0))
      · exact .inl (hcommit hu)
      · exact .inr (by rw [← hbyte, hi]; rfl)
    · obtain hu | ⟨hi, -⟩ | ⟨-, hu⟩ := hu
      · simp [hu, h1] at h0
      · rw [← hbyte, hi]; rfl
      · simp [hu] at h0

end Sys2Proof.Machine

namespace Sys2Proof.Machine

/-! ## Disabled cartridge RAM (R49, R125, R131, R144) -/

/-- Cartridge RAM and the live clock are those of s. -/
structure State.SameRam (s t : State) : Prop where
  cram  : t.cram = s.cram
  clock : t.mbc.liveClock = s.mbc.liveClock

namespace State.SameRam

variable {s t u : State}

theorem of_eq (hcram : t.cram = s.cram) (hmbc : t.mbc = s.mbc) : s.SameRam t := ⟨hcram, by rw [hmbc]⟩

theorem refl (s : State) : s.SameRam s := ⟨rfl, rfl⟩

theorem trans (h : s.SameRam t) (h' : t.SameRam u) : s.SameRam u :=
  ⟨h'.cram.trans h.cram, h'.clock.trans h.clock⟩

end State.SameRam

theorem State.ramTarget_of_disabled {s : State} (h : s.mbc.ramEnabled = false) (a : Word) :
    s.ramTarget a = .disabled := by
  unfold State.ramTarget
  split
  · rfl
  next hm => rw [hm] at h; exact if_pos (.inl h)
  next hm => rw [hm] at h; exact if_pos h

/-- A control write sets no clock: latching copies the live one. -/
theorem Mbc.liveClock_control (w : ControlWindow) (v : Byte) (m : Mbc) : (m.control w v).liveClock = m.liveClock := by
  cases m with
  | romOnly => rfl
  | mbc1 m => rfl
  | mbc3 m => cases w <;> rfl

/-- Only the first control window holds the RAM-enable latch. -/
theorem Mbc.ramEnabled_control {w : ControlWindow} (hw : w ≠ .enable) (v : Byte) (m : Mbc) :
    (m.control w v).ramEnabled = m.ramEnabled := by
  cases m with
  | romOnly => rfl
  | mbc1 m =>
    cases w with
    | enable => exact absurd rfl hw
    | romBank | ramBank | latch => rfl
  | mbc3 m =>
    cases w with
    | enable => exact absurd rfl hw
    | romBank | ramBank | latch => rfl

theorem controlWindow_eq_enable {a : Word} : controlWindow a = .enable ↔ a.toNat < 0x2000 := by
  unfold controlWindow
  (repeat' split) <;> simp <;> omega

/-- Outside the RAM window a bus write reaches the controller as a control write or not at all, and no RAM. -/
theorem State.busWrite_outside_ramWindow {a : Word} (ha : region a ≠ .cartRam) (v : Byte) (s : State) :
    (s.busWrite a v).cram = s.cram ∧
      ((s.busWrite a v).mbc = s.mbc ∨ (s.busWrite a v).mbc = s.mbc.control (controlWindow a) v) := by
  unfold State.busWrite
  split
  case h_1 => exact ⟨rfl, .inr rfl⟩
  case h_3 hr => exact absurd hr ha
  case h_9 => split <;> simp
  all_goals exact ⟨by simp, .inl (by simp)⟩

theorem State.busWrite_ramWindow {a : Word} (ha : region a = .cartRam) (v : Byte) (s : State) :
    s.busWrite a v = s.ramWrite a v := by
  simp only [State.busWrite, ha]

/-- A bus write changes RAM or the clock only in the RAM window, and there only if it is enabled. -/
theorem State.SameRam.busWrite {a : Word} {s : State} (h : region a = .cartRam → s.mbc.ramEnabled = false) (v : Byte) :
    s.SameRam (s.busWrite a v) := by
  by_cases ha : region a = .cartRam
  · rw [State.busWrite_ramWindow ha, State.ramWrite, State.ramTarget_of_disabled (h ha)]
    exact refl s
  · obtain ⟨hcram, hmbc | hmbc⟩ := State.busWrite_outside_ramWindow ha v s
    · exact of_eq hcram hmbc
    · exact ⟨hcram, by rw [hmbc, Mbc.liveClock_control]⟩

/-- A bus write enables RAM, if at all, from the first control window. -/
theorem State.ramEnabled_busWrite {a : Word} (ha : ¬ a.toNat < 0x2000) (v : Byte) {s : State}
    (h : s.mbc.ramEnabled = false) : (s.busWrite a v).mbc.ramEnabled = false := by
  by_cases hr : region a = .cartRam
  · rwa [State.busWrite_ramWindow hr, State.ramWrite, State.ramTarget_of_disabled h]
  · obtain ⟨-, hmbc | hmbc⟩ := State.busWrite_outside_ramWindow hr v s
    · rwa [hmbc]
    · rwa [hmbc, Mbc.ramEnabled_control fun he => ha (controlWindow_eq_enable.mp he)]

/-- No address next to the first control window lies in the RAM window: enabling RAM and using it are no two adjacent
stores. -/
theorem Adjacent.not_ramWindow {x y : Word} (h : Adjacent x y) (hx : x.toNat < 0x2000) : region y ≠ .cartRam := by
  rw [Ne, region_eq_cartRam]
  obtain rfl | rfl := h
  · bv_omega
  · bv_omega

/-- Stores at pairwise adjacent addresses leave disabled RAM as it is: it stays disabled until a store in the first control
window, and no store after that reaches the RAM window. -/
theorem Effect.sameRam {w : Writes} {s t : State} {l : List Word} (h : Effect w s l t) (hl : l.Pairwise Adjacent)
    (hs : s.mbc.ramEnabled = false) : s.SameRam t ∧ (t.mbc.ramEnabled = false ∨ ∃ x ∈ l, x.toNat < 0x2000) := by
  induction h with
  | refl => exact ⟨.refl s, .inl hs⟩
  | setR _ r v _ ih =>
    obtain ⟨hram, hen⟩ := ih hl
    exact ⟨hram.trans (.of_eq (by simp) (by simp)), by simpa using hen⟩
  | withF _ v _ _ ih | withSP _ v _ ih | withPC _ v _ ih | control _ _ _ _ _ _ ih | tick _ n ih =>
    obtain ⟨hram, hen⟩ := ih hl
    exact ⟨hram.trans (.of_eq rfl rfl), hen⟩
  | read _ x ih =>
    obtain ⟨hram, hen⟩ := ih hl
    exact ⟨hram.trans (.of_eq (by simp) (by simp)), by simpa using hen⟩
  | write _ y v ih =>
    obtain ⟨hl', -, hadj⟩ := List.pairwise_append.mp hl
    obtain ⟨hram, hen | ⟨x, hx, hlow⟩⟩ := ih hl'
    · refine ⟨hram.trans (.busWrite (fun _ => hen) v), ?_⟩
      by_cases hy : y.toNat < 0x2000
      · exact .inr ⟨y, by simp, hy⟩
      · exact .inl (State.ramEnabled_busWrite hy v hen)
    · have hout : region y ≠ .cartRam := (hadj x hx y (by simp)).not_ramWindow hlow
      exact ⟨hram.trans (.busWrite (fun h => absurd h hout) v), .inr ⟨x, by simp [hx], hlow⟩⟩

namespace State.SameRam

variable {s t : State}

theorem of_exec {i : Instr} (h : exec i s = .next t) (hs : s.mbc.ramEnabled = false) : s.SameRam t := by
  obtain ⟨t', l, ht', heff, hl⟩ := exec_effect i s
  rw [h] at ht'
  cases ht'
  exact (heff.sameRam hl hs).1

/-- A dispatch stores PC as a call does (R421). -/
theorem dispatch (k : Fin 5) (hs : s.mbc.ramEnabled = false) : s.SameRam (s.dispatch k) := by
  have heff : Effect ⟨[], 0, true, true⟩ s [s.sp - 1, s.sp - 1 - 1] (s.dispatch k) :=
    ((((Effect.refl.control false false _ s.fault _).push16 _ _ rfl).withPC _ rfl).tick _)
  exact (heff.sameRam (pairwise_adjacent_down _) hs).1

theorem of_step (h : step s = .next t) (hs : s.mbc.ramEnabled = false) : s.SameRam t := by
  have hwake : s.SameRam s.wake := of_eq (by simp) (by simp)
  obtain ⟨-, ⟨-, rfl⟩ | ⟨-, k, -, rfl⟩ | ⟨-, -, -, rfl⟩ | ⟨-, -, -, u, hexec, ⟨-, rfl⟩ | ⟨-, rfl⟩⟩⟩ := step_cases h
  case inl => exact of_eq rfl rfl
  case inr.inl => exact hwake.trans (dispatch k (by simpa using hs))
  case inr.inr.inl => exact hwake.trans (of_eq rfl rfl)
  case inr.inr.inr.inl => exact of_eq rfl rfl
  case inr.inr.inr.inr =>
    have hmbc : s.wake.fetch.2.mbc = s.mbc := by
      obtain ⟨-, hf⟩ | ⟨-, hf | hf | hf⟩ := s.wake.fetch_state <;> rw [hf] <;> simp
    have hcram : s.wake.fetch.2.cram = s.cram := by
      obtain ⟨-, hf⟩ | ⟨-, hf | hf | hf⟩ := s.wake.fetch_state <;> rw [hf] <;> simp
    exact (of_eq hcram hmbc).trans <| (of_exec hexec (by rw [hmbc, hs])).trans <| of_eq (by simp) (by simp)

end State.SameRam

/-- Settles O47: a step's stores lie at adjacent addresses, so none of them reaches RAM that another has enabled. -/
theorem disabledRamIsProtected : Obligations.DisabledRamIsProtected := by
  unfold Obligations.DisabledRamIsProtected
  intro s hs
  refine ⟨fun t h => ?_, fun a => ?_, fun a v => ?_, fun a hlo hhi => ?_⟩
  · have hram := State.SameRam.of_step h hs
    exact ⟨hram.cram, hram.clock⟩
  · exact ⟨by simp [State.hostRead], by simp [State.hostRead]⟩
  · have hram : s.SameRam (s.busWrite a v) := .busWrite (fun _ => hs) v
    exact ⟨hram.cram, hram.clock⟩
  · have hr : region a = .cartRam := region_eq_cartRam.mpr ⟨hlo, hhi⟩
    simp only [State.readVal, hr, State.ramRead, State.ramTarget_of_disabled hs]

end Sys2Proof.Machine

namespace Sys2Proof.Machine

/-! ## Read after write (R44, R45, R47, R48, R97, R101, R131, R144) -/

section
variable {s : State} {a x : Word} {v : Byte}

/-! ### Work RAM and high RAM -/

/-- Work RAM's own addresses and their mirror are one storage (R97). -/
theorem State.busWrite_wram_or_mirror (h : region a = .wram ∨ region a = .mirror) :
    s.busWrite a v = { s with wram := s.wram.write ((a.toNat - 0xC000) % 0x2000) v } := by
  obtain h | h := h
  · have hk : (a.toNat - 0xC000) % 0x2000 = a.toNat - 0xC000 := by rw [region_eq_wram] at h; omega
    simp only [State.busWrite, h, hk]
  · have hk : (a.toNat - 0xC000) % 0x2000 = a.toNat - 0xE000 := by rw [region_eq_mirror] at h; omega
    simp only [State.busWrite, h, hk]

theorem State.readVal_wram_or_mirror (h : region a = .wram ∨ region a = .mirror) :
    s.readVal a = s.wram.read ((a.toNat - 0xC000) % 0x2000) := by
  obtain h | h := h
  · have hk : (a.toNat - 0xC000) % 0x2000 = a.toNat - 0xC000 := by rw [region_eq_wram] at h; omega
    simp only [State.readVal, h, hk]
  · have hk : (a.toNat - 0xC000) % 0x2000 = a.toNat - 0xE000 := by rw [region_eq_mirror] at h; omega
    simp only [State.readVal, h, hk]

theorem region_wram_or_mirror (h : 0xC000 ≤ a.toNat ∧ a.toNat ≤ 0xFDFF) : region a = .wram ∨ region a = .mirror := by
  rw [region_eq_wram, region_eq_mirror]
  omega

/-- A write in work RAM or its mirror is read at every address of the same byte. -/
theorem State.Inv.readVal_busWrite_wram (hs : s.Inv) (ha : 0xC000 ≤ a.toNat ∧ a.toNat ≤ 0xFDFF)
    (hx : 0xC000 ≤ x.toNat ∧ x.toNat ≤ 0xFDFF) (hax : (x.toNat - 0xC000) % 0x2000 = (a.toNat - 0xC000) % 0x2000) :
    (s.busWrite a v).readVal x = v := by
  rw [State.busWrite_wram_or_mirror (region_wram_or_mirror ha), State.readVal_wram_or_mirror (region_wram_or_mirror hx), hax]
  exact Memory.read_write_same hs.wram v

theorem State.Inv.readVal_busWrite_hram (hs : s.Inv) (ha : 0xFF80 ≤ a.toNat ∧ a.toNat ≤ 0xFFFE) :
    (s.busWrite a v).readVal a = v := by
  have hr : region a = .hram := region_eq_hram.mpr ha
  simp only [State.busWrite, State.readVal, hr]
  exact Memory.read_write_same hs.hram v

/-! ### IF and IE -/

/-- The three high bits read back as set (R44, R45). -/
theorem intRegRead_intRegWrite (v : Byte) : intRegRead (intRegWrite v) = 0xE0 ||| v := by
  revert v
  decide

theorem State.readVal_busWrite_intReg (ha : a = 0xFF0F ∨ a = 0xFFFF) : (s.busWrite a v).readVal a = 0xE0 ||| v := by
  rw [← intRegRead_intRegWrite]
  obtain rfl | rfl := ha <;> rfl

/-! ### Peripherals under the reference stub -/

/-- The stub holds a byte as its difference from OPEN_BUS, and answers it so. -/
theorem State.Inv.periphValue_periphWrite (hs : s.Inv) (hp : s.cfg.periph = .stub) :
    (s.periphWrite a v).periphValue a = v := by
  simp only [State.periphWrite, State.periphValue, hp, Memory.read_write_same hs.stub, BitVec.xor_assoc,
    BitVec.xor_self, BitVec.xor_zero]

/-- A served address reads and writes its peripheral (R100, R103). -/
theorem State.readVal_served (h : s.servedByPeriph a = true) : s.readVal a = s.periphValue a := by
  unfold State.servedByPeriph at h
  split at h
  next hr => simp only [State.readVal, hr]
  next hr => simp only [State.readVal, hr]
  next hr => simp only [State.readVal, hr, if_pos (of_decide_eq_true h)]
  next => cases h

theorem State.busWrite_served (h : s.servedByPeriph a = true) : s.busWrite a v = s.periphWrite a v := by
  unfold State.servedByPeriph at h
  split at h
  next hr => simp only [State.busWrite, hr]
  next hr => simp only [State.busWrite, hr]
  next hr => simp only [State.busWrite, hr, if_pos (of_decide_eq_true h)]
  next => cases h

theorem State.Inv.readVal_busWrite_served (hs : s.Inv) (hp : s.cfg.periph = .stub) (h : s.servedByPeriph a = true) :
    (s.busWrite a v).readVal a = v := by
  have h' : (s.periphWrite a v).servedByPeriph a = true := by
    rw [← h]
    simp only [State.servedByPeriph, State.periphWrite_cfg]
  rw [State.busWrite_served h, State.readVal_served h', hs.periphValue_periphWrite hp]

/-! ### The RAM window -/

theorem State.readVal_ramWindow (ha : region a = .cartRam) : s.readVal a = s.ramRead a := by
  simp only [State.readVal, ha]

theorem State.Inv.readVal_busWrite_cram (hs : s.Inv) (ha : region a = .cartRam) {offset : Nat}
    (ht : s.ramTarget a = .cram offset) : (s.busWrite a v).readVal a = v := by
  have hw : s.busWrite a v = { s with cram := s.cram.write offset v } := by
    simp only [State.busWrite_ramWindow ha, State.ramWrite, ht]
  have ht' : (s.busWrite a v).ramTarget a = .cram offset := by rw [hw]; exact ht
  rw [State.readVal_ramWindow ha, State.ramRead, ht', hw]
  exact Memory.read_write_same hs.cram v

/-- The window reaches an RTC register exactly when RAM is enabled and the register is selected (R144). -/
theorem State.ramTarget_eq_rtc {reg : RtcReg} :
    s.ramTarget a = .rtc reg ↔ ∃ m, s.mbc = .mbc3 m ∧ m.ramEnable = true ∧ m.sel = .rtc reg := by
  unfold State.ramTarget
  constructor
  · intro h
    (repeat' split at h) <;> simp_all
  · rintro ⟨m, hm, hen, hsel⟩
    simp [hm, hen, hsel]

/-- The bits an RTC register keeps (R143). -/
def RtcReg.mask : RtcReg → Byte
  | .s => 0x3F
  | .m => 0x3F
  | .hr => 0x1F
  | .dl => 0xFF
  | .dh => 0xC1

theorem Rtc.read_write_same (k : Rtc) (v : Byte) (reg : RtcReg) : (k.write v reg).read reg = v &&& reg.mask := by
  cases reg <;> simp only [Rtc.write, Rtc.read, RtcReg.mask] <;> revert v <;> decide

/-- A write to the RTC register selected sets it in the live clock alone. -/
theorem State.busWrite_rtc_mbc (ha : region a = .cartRam) {m : Mbc3} {reg : RtcReg} (hm : s.mbc = .mbc3 m)
    (hen : m.ramEnable = true) (hsel : m.sel = .rtc reg) :
    (s.busWrite a v).mbc = .mbc3 { m with live := m.live.write v reg } := by
  have ht : s.ramTarget a = .rtc reg := State.ramTarget_eq_rtc.mpr ⟨m, hm, hen, hsel⟩
  simp only [State.busWrite_ramWindow ha, State.ramWrite, ht, hm, Mbc.writeRtc]

theorem State.readVal_rtc (ha : region a = .cartRam) {m : Mbc3} {reg : RtcReg} (hm : s.mbc = .mbc3 m)
    (hen : m.ramEnable = true) (hsel : m.sel = .rtc reg) : s.readVal a = m.latched.read reg := by
  have ht : s.ramTarget a = .rtc reg := State.ramTarget_eq_rtc.mpr ⟨m, hm, hen, hsel⟩
  simp only [State.readVal_ramWindow ha, State.ramRead, ht, hm, Mbc.latched]

/-- Writing 0x00 and then 0x01 to the latch window copies the live clock (R145). -/
theorem State.latch_mbc {m : Mbc3} (hm : s.mbc = .mbc3 m) (hrtc : m.hasRtc = true) :
    ((s.busWrite 0x6000 0x00).busWrite 0x6000 0x01).mbc = .mbc3 { m with latched := m.live, latchPrev := 0x01 } := by
  have hw : ∀ (v : Byte) (s : State), (s.busWrite 0x6000 v).mbc = s.mbc.control .latch v := fun _ _ => rfl
  rw [hw, hw, hm]
  simp [Mbc.control, Mbc3.control, hrtc]

end

/-- Settles O50: region by region, a read of the storage that the write went to. -/
theorem writeThenReadBack : Obligations.WriteThenReadBack := by
  unfold Obligations.WriteThenReadBack
  intro s a v hs
  refine ⟨fun ha => hs.readVal_busWrite_wram ha ha rfl, fun ha => ?_, hs.readVal_busWrite_hram,
    State.readVal_busWrite_intReg, fun ha ⟨offset, ht⟩ => hs.readVal_busWrite_cram (region_eq_cartRam.mpr ha) ht,
    hs.readVal_busWrite_served, fun reg ha ht => ?_⟩
  · have hmirror : (a + 0x2000).toNat = a.toNat + 0x2000 := by bv_omega
    exact hs.readVal_busWrite_wram (by omega) (by omega) (by omega)
  · have hr : region a = .cartRam := region_eq_cartRam.mpr ha
    obtain ⟨m, hm, hen, hsel⟩ := State.ramTarget_eq_rtc.mp ht
    have hrtc : m.hasRtc = true := by
      have hwf := hs.mbc
      simp only [hm, Mbc.wf, hsel, Bool.and_eq_true] at hwf
      exact hwf.2
    have hw := State.busWrite_rtc_mbc (v := v) hr hm hen hsel
    have hread := State.readVal_rtc hr hw hen hsel
    have hlatched := State.readVal_rtc hr (State.latch_mbc hw hrtc) hen hsel
    refine ⟨by rw [hread, State.readVal_rtc hr hm hen hsel], ?_⟩
    rw [hlatched, Rtc.read_write_same]
    cases reg <;> rfl

end Sys2Proof.Machine

namespace Sys2Proof.Machine

/-! ## What a bus access leaves as it was (R84, R85, R93, R96, R97)

What a read at an address depends on, said once, and from it the frame of each kind of bus write. -/

section
variable {s t : State} {a x : Word} {v : Byte}

/-- A read at x looks at the parameters, and at one storage that its region names. -/
theorem State.readVal_congr (hcfg : t.cfg = s.cfg) (hrom : region x = .rom → t.romRead x = s.romRead x)
    (hperiph : s.servedByPeriph x = true → t.periphValue x = s.periphValue x)
    (hcart : region x = .cartRam → t.ramRead x = s.ramRead x)
    (hwram : region x = .wram ∨ region x = .mirror →
      t.wram.read ((x.toNat - 0xC000) % 0x2000) = s.wram.read ((x.toNat - 0xC000) % 0x2000))
    (hifr : region x = .ifReg → t.ifr = s.ifr)
    (hhram : region x = .hram → t.hram.read (x.toNat - 0xFF80) = s.hram.read (x.toNat - 0xFF80))
    (hie : region x = .ieReg → t.ie = s.ie) : t.readVal x = s.readVal x := by
  have served : s.servedByPeriph x = true → t.readVal x = s.readVal x := fun h => by
    have h' : t.servedByPeriph x = true := by rw [← h]; simp only [State.servedByPeriph, hcfg]
    rw [State.readVal_served h, State.readVal_served h', hperiph h]
  cases hr : region x with
  | rom => simp only [State.readVal, hr, hrom hr]
  | vram | oam => exact served (by simp only [State.servedByPeriph, hr])
  | cartRam => rw [State.readVal_ramWindow hr, State.readVal_ramWindow hr, hcart hr]
  | wram => rw [State.readVal_wram_or_mirror (.inl hr), State.readVal_wram_or_mirror (.inl hr), hwram (.inl hr)]
  | mirror => rw [State.readVal_wram_or_mirror (.inr hr), State.readVal_wram_or_mirror (.inr hr), hwram (.inr hr)]
  | unusable => simp only [State.readVal, hr, hcfg]
  | ifReg => simp only [State.readVal, hr, hifr hr]
  | periph =>
    by_cases hm : x ∈ s.cfg.periphMapped
    · exact served (by simp only [State.servedByPeriph, hr, hm, decide_true])
    · simp only [State.readVal, hr, hcfg, if_neg hm]
  | hram => simp only [State.readVal, hr, hhram hr]
  | ieReg => simp only [State.readVal, hr, hie hr]

/-! ### Bus writes -/

/-- A control write changes only which byte the switchable ROM window and the RAM window show (R93). -/
theorem State.readVal_controlWrite (hrom : region x = .rom → x.toNat < 0x4000) (hcart : region x ≠ .cartRam) :
    (s.controlWrite a v).readVal x = s.readVal x := by
  by_cases hr : region x = .rom
  · rw [State.readVal_fixedRom (hrom hr), State.readVal_fixedRom (hrom hr), State.controlWrite_cart]
  · exact State.readVal_congr rfl (absurd · hr) (fun _ => rfl) (absurd · hcart) (fun _ => rfl) (fun _ => rfl) (fun _ => rfl)
      (fun _ => rfl)

/-- A peripheral write changes only what peripherals answer, and IF (R96). -/
theorem State.readVal_periphWrite (hserved : s.servedByPeriph x = false) (hif : region x ≠ .ifReg) :
    (s.periphWrite a v).readVal x = s.readVal x := by
  refine State.readVal_congr (by simp) (fun _ => ?_) (fun h => by simp [hserved] at h) (fun _ => ?_) (fun _ => by simp)
    (absurd · hif) (fun _ => by simp) (fun _ => by simp)
  · simp only [State.romRead, State.romOffset, State.periphWrite_cart, State.periphWrite_mbc]
  · simp only [State.ramRead, State.ramTarget, State.periphWrite_cart, State.periphWrite_mbc, State.periphWrite_cram,
      State.periphWrite_cfg]

/-- A write to a byte of cartridge RAM changes only the window addresses that reach this byte (R124). -/
theorem State.readVal_ramWrite_cram {offset : Nat} (ht : s.ramTarget a = .cram offset)
    (hx : region x = .cartRam → s.ramTarget x ≠ .cram offset) : (s.ramWrite a v).readVal x = s.readVal x := by
  simp only [State.ramWrite, ht]
  refine State.readVal_congr rfl (fun _ => rfl) (fun _ => rfl) (fun hr => ?_) (fun _ => rfl) (fun _ => rfl) (fun _ => rfl)
    (fun _ => rfl)
  have htx : State.ramTarget { s with cram := s.cram.write offset v } x = s.ramTarget x := rfl
  rw [State.ramRead, State.ramRead, htx]
  cases hk : s.ramTarget x with
  | disabled | rtc _ => rfl
  | cram k => exact Memory.read_write_other (fun h => hx hr (by rw [hk, h])) v s.cram

/-- A write to an RTC register changes the live clock, which no read shows (R144). -/
theorem State.readVal_ramWrite_rtc {reg : RtcReg} (ht : s.ramTarget a = .rtc reg) :
    (s.ramWrite a v).readVal x = s.readVal x := by
  obtain ⟨m, hm, -, -⟩ := State.ramTarget_eq_rtc.mp ht
  simp only [State.ramWrite, ht, hm, Mbc.writeRtc]
  refine State.readVal_congr rfl (fun _ => ?_) (fun _ => rfl) (fun _ => ?_) (fun _ => rfl) (fun _ => rfl) (fun _ => rfl)
    (fun _ => rfl)
  · simp only [State.romRead, State.romOffset, hm]
  · simp only [State.ramRead, State.ramTarget, hm, Mbc.latched]

theorem State.readVal_busWrite_wram_other (ha : region a = .wram ∨ region a = .mirror)
    (hx : region x = .wram ∨ region x = .mirror → (x.toNat - 0xC000) % 0x2000 ≠ (a.toNat - 0xC000) % 0x2000) :
    (s.busWrite a v).readVal x = s.readVal x := by
  rw [State.busWrite_wram_or_mirror ha]
  exact State.readVal_congr rfl (fun _ => rfl) (fun _ => rfl) (fun _ => rfl)
    (fun hr => Memory.read_write_other (hx hr) v s.wram) (fun _ => rfl) (fun _ => rfl) (fun _ => rfl)

/-- IF, high RAM and IE are each reached at their own address alone. -/
theorem State.readVal_busWrite_ownAddress (ha : region a = .ifReg ∨ region a = .hram ∨ region a = .ieReg) (hx : x ≠ a) :
    (s.busWrite a v).readVal x = s.readVal x := by
  rw [Ne, ← BitVec.toNat_inj] at hx
  obtain hr | hr | hr := ha
  · simp only [State.busWrite, hr]
    refine State.readVal_congr rfl (fun _ => rfl) (fun _ => rfl) (fun _ => rfl) (fun _ => rfl) (fun hxr => ?_) (fun _ => rfl)
      (fun _ => rfl)
    rw [region_eq_ifReg] at hr hxr
    omega
  · simp only [State.busWrite, hr]
    refine State.readVal_congr rfl (fun _ => rfl) (fun _ => rfl) (fun _ => rfl) (fun _ => rfl) (fun _ => rfl) (fun hxr => ?_)
      (fun _ => rfl)
    rw [region_eq_hram] at hr hxr
    exact Memory.read_write_other (by omega) v s.hram
  · simp only [State.busWrite, hr]
    refine State.readVal_congr rfl (fun _ => rfl) (fun _ => rfl) (fun _ => rfl) (fun _ => rfl) (fun _ => rfl) (fun _ => rfl)
      (fun hxr => ?_)
    rw [region_eq_ieReg] at hr hxr
    omega

/-! ### The addresses a write reaches -/

theorem State.writeReaches_rom (ha : region a = .rom) :
    s.writeReaches a x = true ↔ (region x = .rom ∧ 0x4000 ≤ x.toNat) ∨ region x = .cartRam := by
  simp only [State.writeReaches, ha, Bool.or_eq_true, Bool.and_eq_true, beq_iff_eq, decide_eq_true_eq]

theorem State.writeReaches_served (ha : s.servedByPeriph a = true) :
    s.writeReaches a x = true ↔ s.servedByPeriph x = true ∨ region x = .ifReg := by
  have h : s.writeReaches a x = (s.servedByPeriph x || region x == .ifReg) := by
    unfold State.servedByPeriph at ha
    split at ha
    next hr => simp only [State.writeReaches, hr]
    next hr => simp only [State.writeReaches, hr]
    next hr => simp only [State.writeReaches, hr, ha, Bool.true_and]
    next => cases ha
  rw [h, Bool.or_eq_true, beq_iff_eq]

theorem State.writeReaches_unmapped (ha : region a = .periph) (hm : a ∉ s.cfg.periphMapped) :
    s.writeReaches a x = false := by
  simp only [State.writeReaches, ha, hm, decide_false, Bool.false_and]

theorem State.writeReaches_cartRam (ha : region a = .cartRam) :
    s.writeReaches a x = true ↔
      region x = .cartRam ∧ ∃ offset, s.ramTarget a = .cram offset ∧ s.ramTarget x = .cram offset := by
  simp only [State.writeReaches, ha]
  cases s.ramTarget a with
  | disabled | rtc _ => simp
  | cram offset => simp

/-- In work RAM and its mirror, a write reaches the addresses of the same byte (R97). -/
theorem State.writeReaches_wram_or_mirror (ha : region a = .wram ∨ region a = .mirror) :
    s.writeReaches a x = true ↔
      (region x = .wram ∨ region x = .mirror) ∧ (x.toNat - 0xC000) % 0x2000 = (a.toNat - 0xC000) % 0x2000 := by
  obtain hr | hr := ha
  · simp only [State.writeReaches, hr, Bool.or_eq_true, Bool.and_eq_true, beq_iff_eq, decide_eq_true_eq, ← BitVec.toNat_inj]
    rw [region_eq_wram] at hr
    rw [region_eq_wram, region_eq_mirror]
    omega
  · simp only [State.writeReaches, hr, Bool.or_eq_true, Bool.and_eq_true, beq_iff_eq, decide_eq_true_eq, ← BitVec.toNat_inj]
    rw [region_eq_mirror] at hr
    rw [region_eq_wram, region_eq_mirror]
    omega

theorem State.writeReaches_unusable (ha : region a = .unusable) : s.writeReaches a x = false := by
  simp only [State.writeReaches, ha]

theorem State.writeReaches_ownAddress (ha : region a = .ifReg ∨ region a = .hram ∨ region a = .ieReg) :
    s.writeReaches a x = true ↔ x = a := by
  obtain hr | hr | hr := ha <;> simp only [State.writeReaches, hr, decide_eq_true_eq]

/-- The frame of a bus write: region by region of a. -/
theorem State.readVal_busWrite_of_not_reached (h : s.writeReaches a x = false) :
    (s.busWrite a v).readVal x = s.readVal x := by
  rw [← Bool.not_eq_true] at h
  have served : s.servedByPeriph a = true → (s.busWrite a v).readVal x = s.readVal x := fun ha => by
    rw [State.writeReaches_served ha, not_or, Bool.not_eq_true] at h
    rw [State.busWrite_served ha, State.readVal_periphWrite h.1 h.2]
  have own : region a = .ifReg ∨ region a = .hram ∨ region a = .ieReg → (s.busWrite a v).readVal x = s.readVal x :=
    fun ha => State.readVal_busWrite_ownAddress ha (mt (State.writeReaches_ownAddress ha).mpr h)
  cases hr : region a with
  | rom =>
    rw [State.writeReaches_rom hr, not_or] at h
    simp only [State.busWrite, hr]
    exact State.readVal_controlWrite (fun hx => Nat.lt_of_not_le fun hle => h.1 ⟨hx, hle⟩) h.2
  | vram | oam => exact served (by simp only [State.servedByPeriph, hr])
  | cartRam =>
    rw [State.writeReaches_cartRam hr] at h
    rw [State.busWrite_ramWindow hr]
    cases ht : s.ramTarget a with
    | disabled => simp only [State.ramWrite, ht]
    | cram offset => exact State.readVal_ramWrite_cram ht fun hx htx => h ⟨hx, offset, ht, htx⟩
    | rtc reg => exact State.readVal_ramWrite_rtc ht
  | wram =>
    rw [State.writeReaches_wram_or_mirror (.inl hr)] at h
    exact State.readVal_busWrite_wram_other (.inl hr) fun hx hk => h ⟨hx, hk⟩
  | mirror =>
    rw [State.writeReaches_wram_or_mirror (.inr hr)] at h
    exact State.readVal_busWrite_wram_other (.inr hr) fun hx hk => h ⟨hx, hk⟩
  | unusable => simp only [State.busWrite, hr]
  | periph =>
    by_cases hm : a ∈ s.cfg.periphMapped
    · exact served (by simp only [State.servedByPeriph, hr, hm, decide_true])
    · simp only [State.busWrite, hr, if_neg hm]
  | ifReg => exact own (.inl hr)
  | hram => exact own (.inr (.inl hr))
  | ieReg => exact own (.inr (.inr hr))

end

theorem eq_ifRegAddr_iff {x : Word} : x = 0xFF0F ↔ region x = .ifReg := by
  rw [region_eq_ifReg, ← BitVec.toNat_inj]
  rfl

/-- Settles O51: the frame, and the reached addresses with each region written as a range. -/
theorem busWriteFrame : Obligations.BusWriteFrame := by
  unfold Obligations.BusWriteFrame
  intro s a x v
  refine ⟨State.readVal_busWrite_of_not_reached, fun ha => ?_, fun ha => ?_, fun ha => ?_, fun ha => ?_, fun ha => ?_,
    fun ha => ?_, fun ha => ?_, fun ha => ?_⟩
  · rw [State.writeReaches_rom (region_eq_rom.mpr ha), region_eq_rom, region_eq_cartRam, and_comm]
  · rw [State.writeReaches_wram_or_mirror (.inl (region_eq_wram.mpr ha)), region_eq_wram, region_eq_mirror]
    bv_omega
  · rw [State.writeReaches_wram_or_mirror (.inr (region_eq_mirror.mpr ha)), region_eq_wram, region_eq_mirror]
    bv_omega
  · refine State.writeReaches_ownAddress ?_
    rw [region_eq_ifReg, region_eq_hram, region_eq_ieReg]
    bv_omega
  · exact State.writeReaches_unusable (region_eq_unusable.mpr ha)
  · rw [State.writeReaches_cartRam (region_eq_cartRam.mpr ha), region_eq_cartRam]
  · rw [State.writeReaches_served ha, eq_ifRegAddr_iff]
  · obtain ⟨hlo, hhi, hne, hm⟩ := ha
    rw [Ne, eq_ifRegAddr_iff, region_eq_ifReg] at hne
    exact State.writeReaches_unmapped (region_eq_periph.mpr ⟨hlo, hhi, hne⟩) hm

end Sys2Proof.Machine

namespace Sys2Proof.Machine

/-! ## The memory an instruction touches (R84, R85, R96, R191)

Accesses says how a next state is built, with the addresses read and stored to; what is built in between leaves the memory
as it is. -/

/-- t differs from s only in the registers, the control state and the clock. -/
def State.SameMemory (s t : State) : Prop :=
  t = { s with
    a := t.a, f := t.f, b := t.b, c := t.c, d := t.d, e := t.e, h := t.h, l := t.l, sp := t.sp, pc := t.pc
    ime := t.ime, eiPending := t.eiPending, mode := t.mode, clock := t.clock, fault := t.fault }

/-- The byte storages, IE, IF, the controller and the stub are those of s. -/
structure State.SameStorage (s t : State) : Prop where
  ie   : t.ie = s.ie
  ifr  : t.ifr = s.ifr
  wram : t.wram = s.wram
  hram : t.hram = s.hram
  cram : t.cram = s.cram
  mbc  : t.mbc = s.mbc
  stub : t.stub = s.stub

theorem State.SameStorage.trans {s t u : State} (h : s.SameStorage t) (h' : t.SameStorage u) : s.SameStorage u :=
  ⟨h'.ie.trans h.ie, h'.ifr.trans h.ifr, h'.wram.trans h.wram, h'.hram.trans h.hram, h'.cram.trans h.cram,
    h'.mbc.trans h.mbc, h'.stub.trans h.stub⟩

/-- t can be built from s by reading at addresses of loads, storing to addresses of stores, and new register values. -/
inductive Accesses (loads stores : List Word) (s : State) : State → Prop where
  | refl : Accesses loads stores s s
  | keep {t u : State} (h : Accesses loads stores s t) (same : t.SameMemory u) : Accesses loads stores s u
  | read {t : State} (h : Accesses loads stores s t) {x : Word} (hx : x ∈ loads) : Accesses loads stores s (t.readEff x)
  | write {t : State} (h : Accesses loads stores s t) {x : Word} (v : Byte) (hx : x ∈ stores) :
      Accesses loads stores s (t.busWrite x v)

/-- The addresses that the bytes of an instruction let it read as data. -/
def instrLoads (i : Instr) (s : State) : List Word := s.loadsFrom (instrByte i 0) (instrByte i 1) (instrByte i 2)

/-- The addresses that the bytes of an instruction let it store to. -/
def instrStores (i : Instr) (s : State) : List Word := s.storesTo (instrByte i 0) (instrByte i 1) (instrByte i 2)

/-! ### The shared operations -/

namespace State.SameMemory

variable {s t : State}

theorem readVal (h : s.SameMemory t) (x : Word) : t.readVal x = s.readVal x := by
  rw [h]
  unfold State.readVal
  split <;> rfl

theorem ramTarget (h : s.SameMemory t) (x : Word) : t.ramTarget x = s.ramTarget x := by
  rw [h]
  rfl

theorem storage (h : s.SameMemory t) : s.SameStorage t := by
  rw [h]
  exact ⟨rfl, rfl, rfl, rfl, rfl, rfl, rfl⟩

theorem cfg (h : s.SameMemory t) : t.cfg = s.cfg := by rw [h]

end State.SameMemory

namespace Accesses

variable {loads stores : List Word} {s t : State}

theorem tick (h : Accesses loads stores s t) (n : Nat) : Accesses loads stores s (t.tick n) := h.keep rfl

theorem setFlags (h : Accesses loads stores s t) (fl : Flags) : Accesses loads stores s (t.setFlags fl) := h.keep rfl

theorem setHL (h : Accesses loads stores s t) (v : Word) : Accesses loads stores s (t.setHL v) := h.keep rfl

theorem withSP (h : Accesses loads stores s t) (v : Word) : Accesses loads stores s { t with sp := v } := h.keep rfl

theorem withPC (h : Accesses loads stores s t) (v : Word) : Accesses loads stores s { t with pc := v } := h.keep rfl

theorem setR (h : Accesses loads stores s t) (r : Reg8) (v : Byte) : Accesses loads stores s (t.setR r v) := by
  cases r <;> exact h.keep rfl

theorem setRR (h : Accesses loads stores s t) (rr : Reg16) (v : Word) : Accesses loads stores s (t.setRR rr v) := by
  cases rr <;> exact h.keep rfl

theorem setStk (h : Accesses loads stores s t) (rr : RegStk) (hi lo : Byte) :
    Accesses loads stores s (t.setStk rr hi lo) := by
  cases rr <;> exact h.keep rfl

theorem applyAlu (h : Accesses loads stores s t) (op : AluOp) (v : Byte) : Accesses loads stores s (t.applyAlu op v) :=
  (h.setR .a _).setFlags _

theorem modify (h : Accesses loads stores s t) {x : Word} (v : Byte) (hl : x ∈ loads) (hs : x ∈ stores) :
    Accesses loads stores s ((t.readEff x).busWrite x v) := (h.read hl).write v hs

theorem push16 (hi lo : Byte) (h1 : s.sp - 1 ∈ stores) (h2 : s.sp - 2 ∈ stores) :
    Accesses loads stores s (s.push16 hi lo) := by
  rw [State.push16_eq]
  exact (((refl.withSP _).write hi h1).withSP _).write lo h2

theorem callTo (target : Word) (h1 : s.sp - 1 ∈ stores) (h2 : s.sp - 2 ∈ stores) :
    Accesses loads stores s (s.callTo target) := (push16 _ _ h1 h2).withPC target

theorem popped16 (h1 : s.sp ∈ loads) (h2 : s.sp + 1 ∈ loads) : Accesses loads stores s s.popped16 := by
  rw [State.popped16_eq]
  exact (((refl.read h1).withSP _).read h2).withSP _

theorem popPC (h1 : s.sp ∈ loads) (h2 : s.sp + 1 ∈ loads) : Accesses loads stores s s.popPC :=
  (popped16 h1 h2).withPC _

end Accesses

/-! ### The addresses of the rows with an operand

The fields of the opcode byte choose among the address forms; the operand bytes are only parts of an address. -/

section
variable {i : Instr} {l : List Word}

theorem instrLoads_of_bytes {s : State} (op b1 b2 : Byte)
    (hb : instrByte i 0 = op ∧ instrByte i 1 = b1 ∧ instrByte i 2 = b2) (hl : s.loadsFrom op b1 b2 = l) :
    instrLoads i s = l := by
  obtain ⟨h0, h1, h2⟩ := hb
  rw [instrLoads, h0, h1, h2, hl]

theorem instrStores_of_bytes {s : State} (op b1 b2 : Byte)
    (hb : instrByte i 0 = op ∧ instrByte i 1 = b1 ∧ instrByte i 2 = b2) (hs : s.storesTo op b1 b2 = l) :
    instrStores i s = l := by
  obtain ⟨h0, h1, h2⟩ := hb
  rw [instrStores, h0, h1, h2, hs]

end

section
variable (n : Byte) (nn : Word) (s : State)

theorem instrLoads_ldh_a_atN : instrLoads (.ldh_a_atN n) s = [highPage n] :=
  instrLoads_of_bytes 0xF0 n 0 ⟨rfl, rfl, rfl⟩ rfl

theorem instrLoads_ld_a_atNN : instrLoads (.ld_a_atNN nn) s = [nn] :=
  instrLoads_of_bytes 0xFA (loByte nn) (hiByte nn) ⟨rfl, rfl, rfl⟩ (congrArg ([·]) (ofBytes_hiByte_loByte nn))

theorem instrStores_ld_atHL_n : instrStores (.ld_atHL_n n) s = [s.hl] :=
  instrStores_of_bytes 0x36 n 0 ⟨rfl, rfl, rfl⟩ rfl

theorem instrStores_ldh_atN_a : instrStores (.ldh_atN_a n) s = [highPage n] :=
  instrStores_of_bytes 0xE0 n 0 ⟨rfl, rfl, rfl⟩ rfl

theorem instrStores_ld_atNN_a : instrStores (.ld_atNN_a nn) s = [nn] :=
  instrStores_of_bytes 0xEA (loByte nn) (hiByte nn) ⟨rfl, rfl, rfl⟩ (congrArg ([·]) (ofBytes_hiByte_loByte nn))

theorem instrStores_ld_atNN_sp : instrStores (.ld_atNN_sp nn) s = [nn, nn + 1] :=
  instrStores_of_bytes 0x08 (loByte nn) (hiByte nn) ⟨rfl, rfl, rfl⟩
    (congrArg (fun a => [a, a + 1]) (ofBytes_hiByte_loByte nn))

theorem instrStores_call_nn : instrStores (.call_nn nn) s = [s.sp - 1, s.sp - 2] :=
  instrStores_of_bytes 0xCD (loByte nn) (hiByte nn) ⟨rfl, rfl, rfl⟩ rfl

/-- A call that is taken stores PC. -/
theorem instrStores_callCond {s : State} (cc : Cond) (hc : s.cond cc = true) :
    instrStores (.callCond cc nn) s = [s.sp - 1, s.sp - 2] := by
  have hb : fieldY (opByte (0xC4 + 8 * condCode cc)) < 4 := by cases cc <;> decide
  have hs : s.storesTo (opByte (0xC4 + 8 * condCode cc)) (loByte nn) (hiByte nn) =
      if fieldY (opByte (0xC4 + 8 * condCode cc)) < 4 ∧ s.cond cc = true then [s.sp - 1, s.sp - 2] else [] := by
    cases cc <;> rfl
  exact instrStores_of_bytes _ _ _ (by cases cc <;> exact ⟨rfl, rfl, rfl⟩) (hs.trans (if_pos ⟨hb, hc⟩))

end

/-! ### Every instruction -/

/-- i answers a next state built with the accesses that its bytes name. -/
def HasAccesses (i : Instr) (s : State) : Prop :=
  ∃ t, exec i s = .next t ∧ Accesses (instrLoads i s) (instrStores i s) s t

section
variable {i : Instr} {s t : State} {loads stores : List Word}

theorem HasAccesses.neither (hx : exec i s = .next t) (h : Accesses (instrLoads i s) (instrStores i s) s t) :
    HasAccesses i s := ⟨t, hx, h⟩

theorem HasAccesses.reads (hx : exec i s = .next t) (hl : instrLoads i s = loads)
    (h : Accesses loads (instrStores i s) s t) : HasAccesses i s := ⟨t, hx, hl ▸ h⟩

theorem HasAccesses.writes (hx : exec i s = .next t) (hs : instrStores i s = stores)
    (h : Accesses (instrLoads i s) stores s t) : HasAccesses i s := ⟨t, hx, hs ▸ h⟩

theorem HasAccesses.modifies (hx : exec i s = .next t) (hl : instrLoads i s = loads) (hs : instrStores i s = stores)
    (h : Accesses loads stores s t) : HasAccesses i s := ⟨t, hx, hl ▸ hs ▸ h⟩

end

open HasAccesses (neither reads writes modifies)
open Accesses (refl)

/-- Every instruction reads and stores only where its encoding says. -/
theorem exec_accesses (i : Instr) : ∀ s : State, HasAccesses i s := by
  cases i using Instr.byFamily
  case ldRegReg r r' => exact fun s => neither (exec_ldRegReg r r' s) ((refl.setR _ _).tick _)
  case ldRegImm r n => exact fun s => neither (exec_ldRegImm r n s) ((refl.setR _ _).tick _)
  case ldRegAtHL r =>
    exact fun s => reads (exec_ldRegAtHL r s) (by cases r <;> rfl) (((refl.read (.head _)).setR _ _).tick _)
  case ldAtHLReg r =>
    exact fun s => writes (exec_ldAtHLReg r s) (by cases r <;> rfl) ((refl.write _ (.head _)).tick _)
  case ldPairImm rr nn => exact fun s => neither (exec_ldPairImm rr nn s) ((refl.setRR _ _).tick _)
  case pushPair rr =>
    exact fun s => writes (exec_pushPair rr s) (by cases rr <;> rfl)
      ((Accesses.push16 _ _ (.head _) (.tail _ (.head _))).tick _)
  case popPair rr =>
    exact fun s => reads (exec_popPair rr s) (by cases rr <;> rfl)
      (((Accesses.popped16 (.head _) (.tail _ (.head _))).setStk _ _ _).tick _)
  case addHLPair rr => exact fun s => neither (exec_addHLPair rr s) (((refl.setHL _).setFlags _).tick _)
  case incPair rr => exact fun s => neither (exec_incPair rr s) ((refl.setRR _ _).tick _)
  case decPair rr => exact fun s => neither (exec_decPair rr s) ((refl.setRR _ _).tick _)
  case aluReg op r => exact fun s => neither (exec_aluReg op r s) ((refl.applyAlu _ _).tick _)
  case aluAtHL op =>
    exact fun s => reads (exec_aluAtHL op s) (by cases op <;> rfl) (((refl.read (.head _)).applyAlu _ _).tick _)
  case aluImm op n => exact fun s => neither (exec_aluImm op n s) ((refl.applyAlu _ _).tick _)
  case incReg r => exact fun s => neither (exec_incReg r s) (((refl.setR _ _).setFlags _).tick _)
  case decReg r => exact fun s => neither (exec_decReg r s) (((refl.setR _ _).setFlags _).tick _)
  case rotReg op r => exact fun s => neither (exec_rotReg op r s) (((refl.setR _ _).setFlags _).tick _)
  case rotAtHL op =>
    exact fun s => modifies (exec_rotAtHL op s) (by cases op <;> rfl) (by cases op <;> rfl)
      (((refl.modify _ (.head _) (.head _)).setFlags _).tick _)
  case bitReg k r => exact fun s => neither (exec_bitReg k r s) ((refl.setFlags _).tick _)
  case bitAtHL k =>
    exact fun s => reads (exec_bitAtHL k s) (by fin_cases k <;> rfl) (((refl.read (.head _)).setFlags _).tick _)
  case resReg k r => exact fun s => neither (exec_resReg k r s) ((refl.setR _ _).tick _)
  case resAtHL k =>
    exact fun s => modifies (exec_resAtHL k s) (by fin_cases k <;> rfl) (by fin_cases k <;> rfl)
      ((refl.modify _ (.head _) (.head _)).tick _)
  case setReg k r => exact fun s => neither (exec_setReg k r s) ((refl.setR _ _).tick _)
  case setAtHL k =>
    exact fun s => modifies (exec_setAtHL k s) (by fin_cases k <;> rfl) (by fin_cases k <;> rfl)
      ((refl.modify _ (.head _) (.head _)).tick _)
  case jpCond cc nn =>
    intro s
    have hx := exec_jpCond cc nn s
    rw [jumpIf] at hx
    split at hx
    · exact neither hx ((refl.withPC _).tick _)
    · exact neither hx (refl.tick _)
  case jrCond cc n =>
    intro s
    have hx := exec_jrCond cc n s
    rw [jumpRelativeIf] at hx
    split at hx
    · exact neither hx ((refl.withPC _).tick _)
    · exact neither hx (refl.tick _)
  case callCond cc nn =>
    intro s
    have hx := exec_callCond cc nn s
    rw [callIf] at hx
    split at hx
    next hc => exact writes hx (instrStores_callCond nn cc hc) ((Accesses.callTo _ (.head _) (.tail _ (.head _))).tick _)
    next => exact neither hx (refl.tick _)
  case retCond cc =>
    intro s
    have hx := exec_retCond cc s
    have hl (hc : s.cond cc = true) : instrLoads (.retCond cc) s = [s.sp, s.sp + 1] := by
      cases cc <;> exact if_pos hc
    rw [returnIf] at hx
    split at hx
    next hc => exact reads hx (hl hc) ((Accesses.popPC (.head _) (.tail _ (.head _))).tick _)
    next => exact neither hx (refl.tick _)
  case rst k =>
    exact fun s => writes (exec_rst k s) (by fin_cases k <;> rfl)
      ((Accesses.callTo _ (.head _) (.tail _ (.head _))).tick _)
  case invalid op => exact fun s => neither rfl (refl.keep rfl)
  case nop => exact fun s => neither rfl (refl.tick _)
  case ld_atBC_a => exact fun s => writes rfl rfl ((refl.write _ (.head _)).tick _)
  case rlca => exact fun s => neither rfl (((refl.setR .a _).setFlags _).tick _)
  case ld_atNN_sp nn =>
    exact fun s => writes rfl (instrStores_ld_atNN_sp nn s)
      (((refl.write _ (.head _)).write _ (.tail _ (.head _))).tick _)
  case ld_a_atBC => exact fun s => reads rfl rfl (((refl.read (.head _)).setR .a _).tick _)
  case rrca => exact fun s => neither rfl (((refl.setR .a _).setFlags _).tick _)
  case stop _ => exact fun s => neither rfl (refl.keep rfl)
  case ld_atDE_a => exact fun s => writes rfl rfl ((refl.write _ (.head _)).tick _)
  case rla => exact fun s => neither rfl (((refl.setR .a _).setFlags _).tick _)
  case jr_e _ => exact fun s => neither rfl ((refl.withPC _).tick _)
  case ld_a_atDE => exact fun s => reads rfl rfl (((refl.read (.head _)).setR .a _).tick _)
  case rra => exact fun s => neither rfl (((refl.setR .a _).setFlags _).tick _)
  case ld_atHLinc_a => exact fun s => writes rfl rfl (((refl.write _ (.head _)).setHL _).tick _)
  case daa => exact fun s => neither rfl (((refl.setR .a _).setFlags _).tick _)
  case ld_a_atHLinc => exact fun s => reads rfl rfl ((((refl.read (.head _)).setR .a _).setHL _).tick _)
  case cpl => exact fun s => neither rfl (((refl.setR .a _).setFlags _).tick _)
  case ld_atHLdec_a => exact fun s => writes rfl rfl (((refl.write _ (.head _)).setHL _).tick _)
  case inc_atHL => exact fun s => modifies rfl rfl rfl (((refl.modify _ (.head _) (.head _)).setFlags _).tick _)
  case dec_atHL => exact fun s => modifies rfl rfl rfl (((refl.modify _ (.head _) (.head _)).setFlags _).tick _)
  case ld_atHL_n n => exact fun s => writes rfl (instrStores_ld_atHL_n n s) ((refl.write _ (.head _)).tick _)
  case scf => exact fun s => neither rfl ((refl.setFlags _).tick _)
  case ld_a_atHLdec => exact fun s => reads rfl rfl ((((refl.read (.head _)).setR .a _).setHL _).tick _)
  case ccf => exact fun s => neither rfl ((refl.setFlags _).tick _)
  case halt => exact fun s => neither rfl (refl.keep rfl)
  case jp_nn _ => exact fun s => neither rfl ((refl.withPC _).tick _)
  case ret => exact fun s => reads rfl rfl ((Accesses.popPC (.head _) (.tail _ (.head _))).tick _)
  case call_nn nn =>
    exact fun s => writes rfl (instrStores_call_nn nn s)
      ((Accesses.callTo _ (.head _) (.tail _ (.head _))).tick _)
  case reti => exact fun s => reads rfl rfl ((Accesses.popPC (.head _) (.tail _ (.head _))).keep rfl)
  case ldh_atN_a n => exact fun s => writes rfl (instrStores_ldh_atN_a n s) ((refl.write _ (.head _)).tick _)
  case ldh_atC_a => exact fun s => writes rfl rfl ((refl.write _ (.head _)).tick _)
  case add_sp_e _ => exact fun s => neither rfl (((refl.withSP _).setFlags _).tick _)
  case jp_hl => exact fun s => neither rfl ((refl.withPC _).tick _)
  case ld_atNN_a nn => exact fun s => writes rfl (instrStores_ld_atNN_a nn s) ((refl.write _ (.head _)).tick _)
  case ldh_a_atN n => exact fun s => reads rfl (instrLoads_ldh_a_atN n s) (((refl.read (.head _)).setR .a _).tick _)
  case ldh_a_atC => exact fun s => reads rfl rfl (((refl.read (.head _)).setR .a _).tick _)
  case di => exact fun s => neither rfl (refl.keep rfl)
  case ld_hl_spPlusE _ => exact fun s => neither rfl (((refl.setHL _).setFlags _).tick _)
  case ld_sp_hl => exact fun s => neither rfl ((refl.withSP _).tick _)
  case ld_a_atNN nn => exact fun s => reads rfl (instrLoads_ld_a_atNN nn s) (((refl.read (.head _)).setR .a _).tick _)
  case ei => exact fun s => neither rfl (refl.keep rfl)

/-! ### The frame of what is built with the accesses -/

section
variable {s t : State} {a x : Word} {v : Byte} {loads stores : List Word}

/-- A peripheral read of an oracle supplies a new byte to every address that a peripheral serves, and to no other. -/
theorem State.readVal_readEff (h : s.cfg.periph = .stub ∨ s.servedByPeriph x = false ∨ s.servedByPeriph a = false) :
    (s.readEff a).readVal x = s.readVal x := by
  rw [State.readEff_eq]
  split
  next hd =>
    have hx : s.servedByPeriph x = false := by simpa [hd] using h
    exact State.readVal_congr rfl (fun _ => rfl) (fun h => by simp [hx] at h) (fun _ => rfl) (fun _ => rfl) (fun _ => rfl)
      (fun _ => rfl) (fun _ => rfl)
  next => rfl

theorem State.ramTarget_congr (hmbc : t.mbc = s.mbc) (hcart : t.cart = s.cart) (x : Word) :
    t.ramTarget x = s.ramTarget x := by
  simp only [State.ramTarget, hmbc, hcart]

/-- Only a control write changes what the RAM window reaches: a write in the window changes a byte or the clock. -/
theorem State.ramTarget_busWrite (ha : region a ≠ .rom) : (s.busWrite a v).ramTarget x = s.ramTarget x := by
  by_cases hr : region a = .cartRam
  · rw [State.busWrite_ramWindow hr, State.ramWrite]
    split
    · rfl
    · rfl
    next reg ht =>
      obtain ⟨m, hm, hen, hsel⟩ := State.ramTarget_eq_rtc.mp ht
      simp only [State.ramTarget, hm, Mbc.writeRtc]
  · refine State.ramTarget_congr ?_ (by simp) x
    unfold State.busWrite
    split
    case h_1 h => exact absurd h ha
    case h_3 h => exact absurd h hr
    case h_9 => split <;> simp
    all_goals simp

/-- What a write reaches depends on the parameters, and in the RAM window on what the window reaches. -/
theorem State.writeReaches_congr (hcfg : t.cfg = s.cfg) (hram : region a = .cartRam → ∀ y, t.ramTarget y = s.ramTarget y) :
    t.writeReaches a x = s.writeReaches a x := by
  cases hr : region a with
  | cartRam => simp only [State.writeReaches, hr, hram hr]
  | rom | vram | wram | mirror | oam | unusable | ifReg | periph | hram | ieReg =>
    simp only [State.writeReaches, State.servedByPeriph, hr, hcfg]

theorem Accesses.cfg (h : Accesses loads stores s t) : t.cfg = s.cfg := by
  induction h with
  | refl => rfl
  | keep _ same ih => exact same.cfg.trans ih
  | read _ _ ih => simpa using ih
  | write _ _ _ ih => simpa using ih

theorem Accesses.ramTarget (h : Accesses loads stores s t) (hs : ∀ a ∈ stores, region a ≠ .rom) (x : Word) :
    t.ramTarget x = s.ramTarget x := by
  induction h with
  | refl => rfl
  | keep _ same ih => exact (same.ramTarget x).trans ih
  | read _ _ ih => exact (State.ramTarget_congr (by simp) (by simp) x).trans ih
  | write _ v hx ih => exact (State.ramTarget_busWrite (hs _ hx)).trans ih

/-- x reads as before if no store reaches it, and no read draws a new byte for it; no store changes what another reaches. -/
theorem Accesses.readVal (h : Accesses loads stores s t)
    (hadj : (∀ a ∈ stores, region a ≠ .rom) ∨ ∀ a ∈ stores, region a ≠ .cartRam)
    (hs : ∀ a ∈ stores, s.writeReaches a x = false)
    (hl : s.cfg.periph = .stub ∨ s.servedByPeriph x = false ∨ ∀ a ∈ loads, s.servedByPeriph a = false) :
    t.readVal x = s.readVal x := by
  induction h with
  | refl => rfl
  | keep _ same ih => exact (same.readVal x).trans ih
  | @read t h y hy ih =>
    have served : ∀ z, t.servedByPeriph z = s.servedByPeriph z := fun z => by simp only [State.servedByPeriph, h.cfg]
    refine (State.readVal_readEff ?_).trans ih
    rw [h.cfg, served, served]
    exact hl.imp_right (Or.imp_right fun hl => hl y hy)
  | write h v hy ih =>
    refine (State.readVal_busWrite_of_not_reached ?_).trans ih
    rw [State.writeReaches_congr h.cfg fun hr => h.ramTarget (hadj.resolve_right fun hn => hn _ hy hr)]
    exact hs _ hy

theorem Accesses.sameStorage (h : Accesses loads [] s t) : s.SameStorage t := by
  induction h with
  | refl => exact ⟨rfl, rfl, rfl, rfl, rfl, rfl, rfl⟩
  | keep _ same ih => exact ih.trans same.storage
  | read _ _ ih => exact ih.trans ⟨by simp, by simp, by simp, by simp, by simp, by simp, by simp⟩
  | write _ _ hx => cases hx

theorem Adjacent.symm {x y : Word} (h : Adjacent x y) : Adjacent y x := by
  obtain rfl | rfl := h
  · exact .inr (BitVec.add_sub_cancel x 1).symm
  · exact .inl (BitVec.sub_add_cancel x 1).symm

/-- No address next to the ROM area lies in the RAM window. -/
theorem Adjacent.not_ramWindow_of_rom {x y : Word} (h : Adjacent x y) (hx : region x = .rom) : region y ≠ .cartRam := by
  rw [region_eq_rom] at hx
  rw [Ne, region_eq_cartRam]
  obtain rfl | rfl := h <;> bv_omega

/-- An instruction stores to no, one or two addresses, and two are adjacent. -/
theorem State.storesTo_adjacent (s : State) (op b1 b2 : Byte) : (s.storesTo op b1 b2).Pairwise Adjacent := by
  unfold State.storesTo
  simp only [← sub_one_sub_one]
  (repeat' split) <;> simp [Adjacent]

theorem stores_not_rom_or_not_ramWindow (h : stores.Pairwise Adjacent) :
    (∀ a ∈ stores, region a ≠ .rom) ∨ ∀ a ∈ stores, region a ≠ .cartRam := by
  by_cases hrom : ∃ a ∈ stores, region a = .rom
  · obtain ⟨a, ha, hra⟩ := hrom
    refine .inr fun b hb hrb => ?_
    have hne : a ≠ b := fun h => by simp [← h, hra] at hrb
    have hsymm : Std.Symm Adjacent := ⟨fun _ _ => Adjacent.symm⟩
    exact (h.forall ha hb hne).not_ramWindow_of_rom hra hrb
  · exact .inl fun a ha hra => hrom ⟨a, ha, hra⟩

end

/-- Settles O29: the next state is built with the accesses that the encoding names, and its stores do not change what one
another reaches. -/
theorem instructionMemoryFrame : Obligations.InstructionMemoryFrame := by
  unfold Obligations.InstructionMemoryFrame
  intro i s t h
  obtain ⟨t', ht', hacc⟩ := exec_accesses i s
  rw [h] at ht'
  cases ht'
  refine ⟨fun x hs hl => ?_, fun hnone => ?_⟩
  · exact hacc.readVal (stores_not_rom_or_not_ramWindow (s.storesTo_adjacent _ _ _)) hs hl
  · rw [show instrStores i s = [] from hnone] at hacc
    have hsame := hacc.sameStorage
    exact ⟨hsame.ie, hsame.ifr, hsame.wram, hsame.hram, hsame.cram, hsame.mbc, hsame.stub⟩

end Sys2Proof.Machine

namespace Sys2Proof.Machine

/-! ## Bus reads and writes by address (R90, R95, R96) -/

section
variable {s : State} {a : Word}

theorem intRegRead_eq (v : BitVec 5) : intRegRead v = 0xE0 ||| v.setWidth 8 := by
  revert v
  decide

theorem State.servedByPeriph_iff :
    s.servedByPeriph a = true ↔
      region a = .vram ∨ region a = .oam ∨ (region a = .periph ∧ a ∈ s.cfg.periphMapped) := by
  unfold State.servedByPeriph
  split <;> simp_all

/-- The mirror shows the byte 0x2000 below (R97). -/
theorem region_below_mirror (ha : region a = .mirror) :
    region (a - 0x2000) = .wram ∧ ((a - 0x2000).toNat - 0xC000) % 0x2000 = (a.toNat - 0xC000) % 0x2000 := by
  rw [region_eq_mirror] at ha
  rw [region_eq_wram]
  bv_omega

theorem State.readVal_mirror (ha : region a = .mirror) : s.readVal a = s.readVal (a - 0x2000) := by
  obtain ⟨hr, hk⟩ := region_below_mirror ha
  rw [State.readVal_wram_or_mirror (.inr ha), State.readVal_wram_or_mirror (.inl hr), hk]

theorem State.busWrite_mirror (ha : region a = .mirror) (v : Byte) : s.busWrite a v = s.busWrite (a - 0x2000) v := by
  obtain ⟨hr, hk⟩ := region_below_mirror ha
  rw [State.busWrite_wram_or_mirror (.inr ha), State.busWrite_wram_or_mirror (.inl hr), hk]

end

/-- The tests of R95 and R96 in their order find the region. -/
theorem eq_ite_of_region {α : Type} {a : Word} {y rom vram cartRam wram mirror oam unusable ifReg periph hram ieReg : α}
    (hrom : region a = .rom → y = rom) (hvram : region a = .vram → y = vram)
    (hcartRam : region a = .cartRam → y = cartRam) (hwram : region a = .wram → y = wram)
    (hmirror : region a = .mirror → y = mirror) (hoam : region a = .oam → y = oam)
    (hunusable : region a = .unusable → y = unusable) (hifReg : region a = .ifReg → y = ifReg)
    (hperiph : region a = .periph → y = periph) (hhram : region a = .hram → y = hram)
    (hieReg : region a = .ieReg → y = ieReg) :
    y = if a.toNat ≤ 0x7FFF then rom else if a.toNat ≤ 0x9FFF then vram else if a.toNat ≤ 0xBFFF then cartRam
      else if a.toNat ≤ 0xDFFF then wram else if a.toNat ≤ 0xFDFF then mirror else if a.toNat ≤ 0xFE9F then oam
      else if a.toNat ≤ 0xFEFF then unusable else if a = 0xFF0F then ifReg else if a.toNat ≤ 0xFF7F then periph
      else if a.toNat ≤ 0xFFFE then hram else ieReg := by
  simp only [eq_ifRegAddr_iff, region_eq_ifReg]
  refine iteInduction (motive := (y = ·)) (fun h => hrom (region_eq_rom.mpr (by omega))) fun h1 => ?_
  refine iteInduction (motive := (y = ·)) (fun h => hvram (region_eq_vram.mpr (by omega))) fun h2 => ?_
  refine iteInduction (motive := (y = ·)) (fun h => hcartRam (region_eq_cartRam.mpr (by omega))) fun h3 => ?_
  refine iteInduction (motive := (y = ·)) (fun h => hwram (region_eq_wram.mpr (by omega))) fun h4 => ?_
  refine iteInduction (motive := (y = ·)) (fun h => hmirror (region_eq_mirror.mpr (by omega))) fun h5 => ?_
  refine iteInduction (motive := (y = ·)) (fun h => hoam (region_eq_oam.mpr (by omega))) fun h6 => ?_
  refine iteInduction (motive := (y = ·)) (fun h => hunusable (region_eq_unusable.mpr (by omega))) fun h7 => ?_
  refine iteInduction (motive := (y = ·)) (fun h => hifReg (region_eq_ifReg.mpr (by omega))) fun h8 => ?_
  refine iteInduction (motive := (y = ·)) (fun h => hperiph (region_eq_periph.mpr (by omega))) fun h9 => ?_
  refine iteInduction (motive := (y = ·)) (fun h => hhram (region_eq_hram.mpr (by omega))) fun h10 => ?_
  exact hieReg (region_eq_ieReg.mpr (by omega))

/-- Settles O48: region by region, and the mirror as the byte 0x2000 below. -/
theorem busReadByAddress : Obligations.BusReadByAddress := by
  unfold Obligations.BusReadByAddress
  intro s a
  refine ⟨?_, ?_, ?_⟩
  · apply eq_ite_of_region <;> intro hr
    case hmirror => exact State.readVal_mirror hr
    all_goals simp only [State.readVal, hr, State.romRead, intRegRead_eq]
  · rw [State.readEff_eq]
    split
    next h => exact .inr ⟨h.2, h.1, rfl⟩
    next => exact .inl rfl
  · simp only [State.servedByPeriph_iff, region_eq_vram, region_eq_oam, region_eq_periph, ne_eq, eq_ifRegAddr_iff,
      region_eq_ifReg, and_assoc]

/-- Settles O49: region by region, and the mirror as the write 0x2000 below. -/
theorem busWriteByAddress : Obligations.BusWriteByAddress := by
  unfold Obligations.BusWriteByAddress
  intro s a v
  refine ⟨?_, fun hp => ?_, fun hp => ?_⟩
  · apply eq_ite_of_region <;> intro hr
    case hmirror => exact State.busWrite_mirror hr v
    all_goals simp only [State.busWrite, hr, State.controlWrite, intRegWrite]
  · simp only [State.periphWrite, hp]
  · simp only [State.periphWrite, hp]

end Sys2Proof.Machine

namespace Sys2Proof.Machine

/-! ## Address translation (R120, R123 to R125, R131, R135, R144, R147) -/

section
variable {bank romBanks : Nat} {a : Word}

/-- A bank number reduced by the bank count names a bank of the image. -/
theorem bankedOffset_lt (hb : 0 < romBanks) (ha : a.toNat < 0x8000) : bankedOffset bank romBanks a < romBanks * 0x4000 := by
  have hbank : bank % romBanks + 1 ≤ romBanks := Nat.mod_lt _ hb
  unfold bankedOffset
  omega

theorem Cart.Ok.romBanks_pos {c : Cart} (h : c.Ok) : 0 < c.romBanks := by
  obtain ⟨code, hcode⟩ := h.romBanks
  unfold romBanksOf at hcode
  split at hcode
  · rw [← Option.some.inj hcode]
    positivity
  · cases hcode

end

/-- Settles O55: the fixed window is bank 0, and every other offset is in a bank reduced by the bank count or RAM size. -/
theorem translationStaysInTheImage : Obligations.TranslationStaysInTheImage := by
  unfold Obligations.TranslationStaysInTheImage
  intro s a hok hrom
  refine ⟨fun ha => ?_, fun offset => State.ramTarget_cram_lt⟩
  have hb := hok.romBanks_pos
  unfold State.romOffset
  split
  · omega
  split
  next hm => rw [hrom hm]; exact ha
  · exact bankedOffset_lt hb ha
  · exact bankedOffset_lt hb ha

/-! ## The real-time clock (R143, R146) -/

section
variable {k : Rtc}

theorem Rtc.inRange_iff : k.inRange = true ↔ k.sec.toNat < 60 ∧ k.min.toNat < 60 ∧ k.hour.toNat < 24 := by
  simp only [Rtc.inRange, Bool.and_eq_true, decide_eq_true_eq, and_assoc]

/-- The two registers of the day count hold its nine bits. -/
theorem Rtc.day_split (d : BitVec 9) : BitVec.ofBool (d.getLsbD 8) ++ d.extractLsb' 0 8 = d := by
  revert d
  decide

theorem Rtc.day_nextDay (k : Rtc) : k.nextDay.day = k.day + 1 := Rtc.day_split _

theorem Rtc.carry_nextDay (k : Rtc) : k.nextDay.carry = (k.carry || decide (k.day.toNat = 511)) := by
  have h : k.day + 1 = 0 ↔ k.day.toNat = 511 := by bv_omega
  simp only [Rtc.nextDay, h]

/-- The day count can show 512 days. -/
theorem Rtc.seconds_lt (h : k.inRange = true) : k.seconds < 512 * 86400 := by
  obtain ⟨hs, hm, hh⟩ := Rtc.inRange_iff.mp h
  have hd := k.day.isLt
  unfold Rtc.seconds
  omega

/-- k' is k some seconds later: in range, running, and with the day carry set if the sum passed 512 days. -/
structure Rtc.Later (k : Rtc) (n : Nat) (k' : Rtc) : Prop where
  inRange : k'.inRange = true
  halt    : k'.halt = false
  seconds : k'.seconds = (k.seconds + n) % (512 * 86400)
  carry   : k'.carry = (k.carry || decide (512 * 86400 ≤ k.seconds + n))

/-! ### One second -/

theorem Rtc.tick_halted (hh : k.halt = true) : k.tick = k := if_pos hh

section
variable (hh : k.halt = false)
include hh

theorem Rtc.tick_second (hs : k.sec.toNat < 59) : k.tick = { k with sec := k.sec + 1 } := by
  have h : k.sec + 1 ≠ 60 := by bv_omega
  simp only [Rtc.tick, hh, Bool.false_eq_true, if_false, if_pos h]

theorem Rtc.tick_minute (hs : k.sec.toNat = 59) (hm : k.min.toNat < 59) :
    k.tick = { k with sec := 0, min := k.min + 1 } := by
  have h : ¬ k.sec + 1 ≠ 60 := by bv_omega
  have h' : k.min + 1 ≠ 60 := by bv_omega
  simp only [Rtc.tick, hh, Bool.false_eq_true, if_false, if_neg h, if_pos h']

theorem Rtc.tick_hour (hs : k.sec.toNat = 59) (hm : k.min.toNat = 59) (hr : k.hour.toNat < 23) :
    k.tick = { k with sec := 0, min := 0, hour := k.hour + 1 } := by
  have h : ¬ k.sec + 1 ≠ 60 := by bv_omega
  have h' : ¬ k.min + 1 ≠ 60 := by bv_omega
  have h'' : k.hour + 1 ≠ 24 := by bv_omega
  simp only [Rtc.tick, hh, Bool.false_eq_true, if_false, if_neg h, if_neg h', if_pos h'']

theorem Rtc.tick_day (hs : k.sec.toNat = 59) (hm : k.min.toNat = 59) (hr : k.hour.toNat = 23) :
    k.tick = { k with sec := 0, min := 0, hour := 0 }.nextDay := by
  have h : ¬ k.sec + 1 ≠ 60 := by bv_omega
  have h' : ¬ k.min + 1 ≠ 60 := by bv_omega
  have h'' : ¬ k.hour + 1 ≠ 24 := by bv_omega
  simp only [Rtc.tick, hh, Bool.false_eq_true, if_false, if_neg h, if_neg h', if_neg h'']

end

/-- A register that goes up without passing its range adds to the time shown, and the day count has room. -/
theorem Rtc.later_one_of_sameDay {k' : Rtc} (hh : k'.halt = false) (hr : k'.inRange = true) (hd : k'.carry = k.carry)
    (hs : k'.seconds = k.seconds + 1) : k.Later 1 k' := by
  have hlt := Rtc.seconds_lt hr
  rw [hs] at hlt
  refine ⟨hr, hh, by rw [hs, Nat.mod_eq_of_lt hlt], ?_⟩
  rw [hd, decide_eq_false (Nat.not_le.mpr hlt), Bool.or_false]

/-- The last second of a day: the day count goes up, and from 511 to 0 with the day carry. -/
theorem Rtc.later_one_nextDay (hh : k.halt = false) (hs : k.sec.toNat = 59) (hm : k.min.toNat = 59)
    (hr : k.hour.toNat = 23) : k.Later 1 { k with sec := 0, min := 0, hour := 0 }.nextDay := by
  have hd := k.day.isLt
  have hday : (k.day + 1).toNat = (k.day.toNat + 1) % 512 := by bv_omega
  have hnow : k.seconds = k.day.toNat * 86400 + 86399 := by simp only [Rtc.seconds, hs, hm, hr]
  have hnext : ({ k with sec := 0, min := 0, hour := 0 } : Rtc).nextDay.seconds = (k.day + 1).toNat * 86400 := by
    simp only [Rtc.seconds, Rtc.day_nextDay]
    simp [Rtc.nextDay, Rtc.day]
  have hlast : 512 * 86400 ≤ k.seconds + 1 ↔ k.day.toNat = 511 := by omega
  refine ⟨rfl, hh, by rw [hnext, hnow, hday]; omega, ?_⟩
  simp only [Rtc.carry_nextDay, hlast]
  rfl

theorem Rtc.later_one_tick (hh : k.halt = false) (hr : k.inRange = true) : k.Later 1 k.tick := by
  obtain ⟨hs, hm, hho⟩ := Rtc.inRange_iff.mp hr
  by_cases hs' : k.sec.toNat < 59
  · rw [Rtc.tick_second hh hs']
    refine Rtc.later_one_of_sameDay hh ?_ rfl ?_
    · simp only [Rtc.inRange_iff]
      bv_omega
    · simp only [Rtc.seconds, Rtc.day]
      bv_omega
  have hs59 : k.sec.toNat = 59 := by omega
  by_cases hm' : k.min.toNat < 59
  · rw [Rtc.tick_minute hh hs59 hm']
    refine Rtc.later_one_of_sameDay hh ?_ rfl ?_
    · simp only [Rtc.inRange_iff]
      bv_omega
    · simp only [Rtc.seconds, Rtc.day]
      bv_omega
  have hm59 : k.min.toNat = 59 := by omega
  by_cases hho' : k.hour.toNat < 23
  · rw [Rtc.tick_hour hh hs59 hm59 hho']
    refine Rtc.later_one_of_sameDay hh ?_ rfl ?_
    · simp only [Rtc.inRange_iff]
      bv_omega
    · simp only [Rtc.seconds, Rtc.day]
      bv_omega
  have hh23 : k.hour.toNat = 23 := by omega
  rw [Rtc.tick_day hh hs59 hm59 hh23]
  exact Rtc.later_one_nextDay hh hs59 hm59 hh23

theorem Rtc.Later.refl (hh : k.halt = false) (hr : k.inRange = true) : k.Later 0 k := by
  have hlt := Rtc.seconds_lt hr
  exact ⟨hr, hh, by rw [Nat.add_zero, Nat.mod_eq_of_lt hlt], by simp [hlt]⟩

theorem Rtc.Later.trans {k' k'' : Rtc} {m n : Nat} (h : k.Later m k') (h' : k'.Later n k'') : k.Later (n + m) k'' := by
  refine ⟨h'.inRange, h'.halt, ?_, ?_⟩
  · rw [h'.seconds, h.seconds, Nat.mod_add_mod, Nat.add_assoc, Nat.add_comm m]
  · rw [h'.carry, h.carry, h.seconds, Bool.or_assoc]
    congr 1
    by_cases hover : 512 * 86400 ≤ k.seconds + m
    · rw [decide_eq_true hover, Bool.true_or, decide_eq_true (by omega)]
    · rw [Nat.mod_eq_of_lt (Nat.lt_of_not_le hover), decide_eq_false hover, Bool.false_or, Nat.add_assoc, Nat.add_comm m]

end

theorem Rtc.later_advance (n : Nat) : ∀ {k : Rtc}, k.halt = false → k.inRange = true → k.Later n (k.advance n) := by
  induction n with
  | zero => exact Rtc.Later.refl
  | succ n ih =>
    intro k hh hr
    have h := Rtc.later_one_tick hh hr
    exact h.trans (ih h.halt h.inRange)

theorem Rtc.advance_halted {k : Rtc} (n : Nat) (hh : k.halt = true) : k.advance n = k := by
  induction n with
  | zero => rfl
  | succ n ih => rw [Rtc.advance, Rtc.tick_halted hh, ih]

/-- Settles O54: second by second, and of the controllers only an MBC3 with a clock has one to advance. -/
theorem clockKeepsTimeOfDay : Obligations.ClockKeepsTimeOfDay := by
  unfold Obligations.ClockKeepsTimeOfDay
  refine ⟨fun k n hh hr => ?_, fun k n => Rtc.advance_halted n, fun s m n hm hrtc => ?_, fun s n hno => ?_⟩
  · have h := Rtc.later_advance n hh hr
    exact ⟨h.inRange, h.halt, h.seconds, h.carry⟩
  · simp only [State.rtcAdvance, hm, Mbc.advance, if_pos hrtc]
  · have h : s.mbc.advance n = s.mbc := by
      cases hm : s.mbc with
      | romOnly | mbc1 _ => rfl
      | mbc3 m => simp only [Mbc.advance, hno m hm, Bool.false_eq_true, if_false]
    rw [State.rtcAdvance, h]

end Sys2Proof.Machine

namespace Sys2Proof.Machine

/-! ## The bank controllers (R91 to R94, R130 to R135, R140 to R147) -/

/-! ### The windows -/

section
variable {s : State} {a : Word} {v : Byte}

theorem controlWindow_eq_romBank : controlWindow a = .romBank ↔ 0x2000 ≤ a.toNat ∧ a.toNat < 0x4000 := by
  unfold controlWindow
  (repeat' split) <;> simp <;> omega

theorem controlWindow_eq_ramBank : controlWindow a = .ramBank ↔ 0x4000 ≤ a.toNat ∧ a.toNat < 0x6000 := by
  unfold controlWindow
  (repeat' split) <;> simp <;> omega

theorem controlWindow_eq_latch : controlWindow a = .latch ↔ 0x6000 ≤ a.toNat := by
  unfold controlWindow
  (repeat' split) <;> simp <;> omega

/-- A write below 0x8000 is the controller's control write of its window and nothing else (R93). -/
theorem State.busWrite_control {w : ControlWindow} (ha : a.toNat ≤ 0x7FFF) (hw : controlWindow a = w) (v : Byte) :
    s.busWrite a v = { s with mbc := s.mbc.control w v } := by
  simp only [State.busWrite, region_eq_rom.mpr ha, State.controlWrite, hw]

theorem State.readVal_rom (ha : a.toNat ≤ 0x7FFF) : s.readVal a = s.cart.rom.read (s.romOffset a) := by
  simp only [State.readVal, region_eq_rom.mpr ha, State.romRead]

/-- The switchable window shows the bank of the controller, reduced by the bank count (R124). -/
theorem State.romOffset_mbc1 {m : Mbc1} (ha : 0x4000 ≤ a.toNat) (hm : s.mbc = .mbc1 m) :
    s.romOffset a = m.romBank % s.cart.romBanks * 0x4000 + (a.toNat - 0x4000) := by
  rw [State.romOffset, if_neg (Nat.not_lt.mpr ha), hm]
  rfl

theorem State.romOffset_mbc3 {m : Mbc3} (ha : 0x4000 ≤ a.toNat) (hm : s.mbc = .mbc3 m) :
    s.romOffset a = m.romBank.toNat % s.cart.romBanks * 0x4000 + (a.toNat - 0x4000) := by
  rw [State.romOffset, if_neg (Nat.not_lt.mpr ha), hm]
  rfl

/-- Where the window reaches nothing, a read gives RAM_DISABLED_VALUE and a write is discarded (R131, R144). -/
theorem State.ramWindow_disabled (hr : region a = .cartRam) (ht : s.ramTarget a = .disabled) :
    s.readVal a = s.cfg.ramDisabledValue ∧ s.busWrite a v = s := by
  rw [State.readVal_ramWindow hr, State.busWrite_ramWindow hr, State.ramRead, State.ramWrite, ht]
  exact ⟨rfl, rfl⟩

theorem State.ramWindow_cram {offset : Nat} (hr : region a = .cartRam) (ht : s.ramTarget a = .cram offset) :
    s.readVal a = s.cram.read offset ∧ s.busWrite a v = { s with cram := s.cram.write offset v } := by
  rw [State.readVal_ramWindow hr, State.busWrite_ramWindow hr, State.ramRead, State.ramWrite, ht]
  exact ⟨rfl, rfl⟩

theorem State.ramWindow_rtc {m : Mbc3} {reg : RtcReg} (hr : region a = .cartRam) (hm : s.mbc = .mbc3 m)
    (ht : s.ramTarget a = .rtc reg) :
    s.readVal a = m.latched.read reg ∧
      s.busWrite a v = { s with mbc := .mbc3 { m with live := m.live.write v reg } } := by
  rw [State.readVal_ramWindow hr, State.busWrite_ramWindow hr, State.ramRead, State.ramWrite, ht, hm]
  exact ⟨rfl, rfl⟩

end

/-! ### The values written -/

theorem enablesRam_eq (v : Byte) : enablesRam v = decide (v.toNat % 16 = 10) := by
  revert v
  decide

/-- Writing 0 to a five-bit bank register selects 1 (R132). -/
theorem bankOfByte5 (v : Byte) :
    (if v.setWidth 5 = 0 then 1 else v.setWidth 5) = BitVec.ofNat 5 (if v.toNat % 32 = 0 then 1 else v.toNat % 32) := by
  revert v
  decide

/-- Writing 0 to a seven-bit bank register selects 1 (R141). -/
theorem bankOfByte7 (v : Byte) :
    (if v.setWidth 7 = 0 then 1 else v.setWidth 7) = BitVec.ofNat 7 (if v.toNat % 128 = 0 then 1 else v.toNat % 128) := by
  revert v
  decide

theorem setWidth2_eq (v : Byte) : v.setWidth 2 = BitVec.ofNat 2 (v.toNat % 4) := by
  revert v
  decide

theorem setWidth1_eq (v : Byte) : v.setWidth 1 = BitVec.ofNat 1 (v.toNat % 2) := by
  revert v
  decide

theorem Mbc1.romBank_eq (m : Mbc1) :
    m.romBank = if m.mode = 0 then 32 * m.bank2.toNat + m.bank1.toNat else m.bank1.toNat := by
  have h : ∀ (hi : BitVec 2) (lo : BitVec 5), (hi ++ lo).toNat = 32 * hi.toNat + lo.toNat := by decide
  rw [Mbc1.romBank, h]

/-! ### MBC1 -/

/-- Settles O52: window by window, with the written value as arithmetic. -/
theorem mbc1Banking : Obligations.Mbc1Banking := by
  unfold Obligations.Mbc1Banking
  intro s m a v hm
  refine ⟨fun ha => ?_, fun ha => ?_, fun ha => ?_, fun ha => ?_, fun ha => State.readVal_fixedRom (by omega) s,
    fun ha => ?_, fun ha => ?_⟩
  · rw [State.busWrite_control (by omega) (controlWindow_eq_enable.mpr (by omega)), hm, ← enablesRam_eq]
    rfl
  · rw [State.busWrite_control (by omega) (controlWindow_eq_romBank.mpr (by omega)), hm, ← bankOfByte5]
    rfl
  · rw [State.busWrite_control (by omega) (controlWindow_eq_ramBank.mpr (by omega)), hm, ← setWidth2_eq]
    rfl
  · rw [State.busWrite_control (by omega) (controlWindow_eq_latch.mpr (by omega)), hm, ← setWidth1_eq]
    rfl
  · rw [State.readVal_rom ha.2, State.romOffset_mbc1 ha.1 hm, Mbc1.romBank_eq]
  · have hr : region a = .cartRam := region_eq_cartRam.mpr ha
    refine ⟨fun hoff => ?_, fun ⟨hen, hsize⟩ => ?_⟩
    · exact State.ramWindow_disabled hr (by simp only [State.ramTarget, hm, if_pos hoff])
    · exact State.ramWindow_cram hr (by simp [State.ramTarget, hm, hen, hsize, ramOffset, Mbc1.ramBank])

/-! ### MBC3 -/

/-- The bytes that select a RAM bank or, with a clock, an RTC register are those that sel can hold (R142). -/
theorem Sel.ofByte_spec (hasRtc : Bool) (v : Byte) :
    (v.toNat ≤ 3 ∨ (hasRtc = true ∧ 0x08 ≤ v.toNat ∧ v.toNat ≤ 0x0C) →
      (Sel.ofByte hasRtc v).map Sel.toByte = some v) ∧
    (¬ (v.toNat ≤ 3 ∨ (hasRtc = true ∧ 0x08 ≤ v.toNat ∧ v.toNat ≤ 0x0C)) → Sel.ofByte hasRtc v = none) := by
  cases hasRtc <;> revert v <;> decide

/-- Settles O53: window by window, with the written value as arithmetic. -/
theorem mbc3Banking : Obligations.Mbc3Banking := by
  unfold Obligations.Mbc3Banking
  intro s m a v hm
  refine ⟨fun ha => ?_, fun ha => ?_, fun ha => ?_, fun ha => ?_, fun ha => State.readVal_fixedRom (by omega) s,
    fun ha => ?_, fun ha => ?_⟩
  · rw [State.busWrite_control (by omega) (controlWindow_eq_enable.mpr (by omega)), hm, ← enablesRam_eq]
    rfl
  · rw [State.busWrite_control (by omega) (controlWindow_eq_romBank.mpr (by omega)), hm, ← bankOfByte7]
    rfl
  · refine ⟨(Sel.ofByte m.hasRtc v).getD m.sel, ?_, fun h => ?_, fun h => ?_⟩
    · rw [State.busWrite_control (by omega) (controlWindow_eq_ramBank.mpr (by omega)), hm]
      rfl
    · obtain ⟨sel, hsel, hbyte⟩ := Option.map_eq_some_iff.mp ((Sel.ofByte_spec m.hasRtc v).1 h)
      rw [hsel, Option.getD_some, hbyte]
    · rw [(Sel.ofByte_spec m.hasRtc v).2 h, Option.getD_none]
  · rw [State.busWrite_control (by omega) (controlWindow_eq_latch.mpr (by omega)), hm]
    refine ⟨fun h => ?_, fun h => ?_⟩
    · simp only [Mbc.control, Mbc3.control, if_pos h]
    · simp only [Mbc.control, Mbc3.control, if_neg h]
  · rw [State.readVal_rom ha.2, State.romOffset_mbc3 ha.1 hm]
  · have hr : region a = .cartRam := region_eq_cartRam.mpr ha
    refine ⟨fun hen => ?_, fun bank hen hsel hsize => ?_, fun bank hen hsel hsize => ?_, fun reg hen hsel => ?_⟩
    · exact State.ramWindow_disabled hr (by simp only [State.ramTarget, hm, if_pos hen])
    · exact State.ramWindow_disabled hr (by simp [State.ramTarget, hm, hen, hsel, hsize])
    · exact State.ramWindow_cram hr (by simp [State.ramTarget, hm, hen, hsel, hsize, ramOffset])
    · exact State.ramWindow_rtc hr hm (State.ramTarget_eq_rtc.mpr ⟨m, hm, hen, hsel⟩)

end Sys2Proof.Machine

namespace Sys2Proof.Machine

/-! ## Load (R120 to R122) -/

/-- The type bytes of the table of R121. -/
theorem mbcOf_spec (ty : Byte) :
    (ty.toNat = 0x00 → mbcOf ty = some .romOnly) ∧
    (0x01 ≤ ty.toNat ∧ ty.toNat ≤ 0x03 → mbcOf ty = some (.mbc1 Mbc1.atLoad)) ∧
    (0x0F ≤ ty.toNat ∧ ty.toNat ≤ 0x10 → mbcOf ty = some (.mbc3 (Mbc3.atLoad true))) ∧
    (0x11 ≤ ty.toNat ∧ ty.toNat ≤ 0x13 → mbcOf ty = some (.mbc3 (Mbc3.atLoad false))) ∧
    (¬ (ty.toNat = 0x00 ∨ (0x01 ≤ ty.toNat ∧ ty.toNat ≤ 0x03) ∨ (0x0F ≤ ty.toNat ∧ ty.toNat ≤ 0x13)) →
      mbcOf ty = none) := by
  revert ty
  decide

/-- The codes of the tables of R120. -/
theorem romBanksOf_spec (code : Byte) :
    romBanksOf code = if code.toNat ≤ 8 then some (2 * 2 ^ code.toNat) else none := rfl

theorem ramSizeOf_spec (code : Byte) :
    ramSizeOf code =
      if code.toNat ≤ 5 then some ([0, 2048, 8192, 32768, 131072, 65536].getD code.toNat 0) else none := by
  revert code
  decide

theorem mbcOf_eq_romOnly (ty : Byte) : mbcOf ty = some .romOnly ↔ ty.toNat = 0x00 := by
  revert ty
  decide

/-- The cartridge that a load of an image with these codes gives (R120, R122). -/
def Image.cart (img : Image) (mbc : Mbc) : Cart where
  rom := Memory.ofCells img.size img.bytes
  romBanks := 2 * 2 ^ (img.byte 0x0148).toNat
  ramSize := if mbc = .romOnly then 0
    else [0, 2048, 8192, 32768, 131072, 65536].getD (img.byte 0x0149).toNat 0

/-- The last three checks, for an image long enough whose type byte is in the table (R122). -/
theorem State.load_of_mbcOf {img : Image} {mbc : Mbc} (cfg : Config) (dr : Draws) (hlong : ¬ img.size < 0x0150)
    (hm : mbcOf (img.byte 0x0147) = some mbc) :
    State.load cfg img dr =
      if ¬ ((img.byte 0x0148).toNat ≤ 8 ∧ (img.byte 0x0149).toNat ≤ 5) then .error .badHeader
      else if ¬ (img.size = 0x8000 * 2 ^ (img.byte 0x0148).toNat ∧
          ((img.byte 0x0147).toNat = 0x00 → (img.byte 0x0148).toNat = 0)) then .error .sizeMismatch
      else .ok (State.initial cfg (img.cart mbc) mbc (Memory.ofCells (img.cart mbc).ramSize dr.cram) dr) := by
  have hrom : mbc = .romOnly ↔ (img.byte 0x0147).toNat = 0x00 := by rw [← mbcOf_eq_romOnly, hm, Option.some_inj]
  have hcode : img.byte 0x0148 = 0x00 ↔ (img.byte 0x0148).toNat = 0 := (BitVec.toNat_inj (y := 0)).symm
  have hsize : 2 * 2 ^ (img.byte 0x0148).toNat * 0x4000 = 0x8000 * 2 ^ (img.byte 0x0148).toNat := by ring
  rw [State.load, if_neg hlong, hm]
  by_cases hr : (img.byte 0x0148).toNat ≤ 8
  · by_cases hc : (img.byte 0x0149).toNat ≤ 5
    · simp only [romBanksOf_spec, ramSizeOf_spec, if_pos hr, if_pos hc, hsize, hrom, Ne, hcode, Image.cart]
      have hcodes := not_not.mpr (And.intro hr hc)
      rw [if_neg hcodes]
      by_cases hs : img.size = 0x8000 * 2 ^ (img.byte 0x0148).toNat
      · by_cases ht : (img.byte 0x0147).toNat = 0x00 ∧ ¬ (img.byte 0x0148).toNat = 0
        · rw [if_neg (not_not.mpr hs), if_pos ht, if_pos fun h => ht.2 (h.2 ht.1)]
        · have hsizes := not_not.mpr (And.intro hs fun h => not_not.mp fun h' => ht ⟨h, h'⟩)
          rw [if_neg (not_not.mpr hs), if_neg ht, if_neg hsizes]
      · rw [if_pos hs, if_pos fun h => hs h.1]
    · simp [romBanksOf_spec, ramSizeOf_spec, hr, hc]
  · simp [romBanksOf_spec, hr]

/-- Settles O56: the checks of R122 one after the other. -/
theorem loadChecksTheImage : Obligations.LoadChecksTheImage := by
  unfold Obligations.LoadChecksTheImage
  intro cfg img dr ty romCode ramCode known codes sizes
  have htable := mbcOf_spec (img.byte 0x0147)
  obtain ⟨h0, h1, h3c, h3, hnone⟩ := htable
  have hsome : known → ∃ mbc, mbcOf (img.byte 0x0147) = some mbc := by
    rintro (h | h | h)
    · exact ⟨_, h0 h⟩
    · exact ⟨_, h1 h⟩
    · by_cases hc : ty ≤ 0x10
      · exact ⟨_, h3c ⟨h.1, hc⟩⟩
      · exact ⟨_, h3 ⟨by omega, h.2⟩⟩
  refine ⟨fun h => if_pos h, fun h hk => ?_, fun h hk hc => ?_, fun h hk hc hs => ?_, fun h hk hc hs => ?_⟩
  · rw [State.load, if_neg h, hnone hk]
  · obtain ⟨mbc, hm⟩ := hsome hk
    rw [State.load_of_mbcOf cfg dr h hm, if_pos hc]
  · obtain ⟨mbc, hm⟩ := hsome hk
    rw [State.load_of_mbcOf cfg dr h hm, if_neg (not_not.mpr hc), if_pos hs]
  · obtain ⟨mbc, hm⟩ := hsome hk
    refine ⟨_, by rw [State.load_of_mbcOf cfg dr h hm, if_neg (not_not.mpr hc), if_neg (not_not.mpr hs)], ?_⟩
    simp only [State.initial_cart, State.initial_mbc, Image.cart]
    have is {m : Mbc} (h : mbcOf (img.byte 0x0147) = some m) : mbc = m := Option.some.inj (hm.symm.trans h)
    refine ⟨rfl, fun ht => ?_, fun ht => ?_, fun ht => ?_, fun ht => ?_, fun ht => ?_⟩
    · exact ⟨is (h0 ht), if_pos (is (h0 ht))⟩
    · exact ⟨_, is (h1 ht)⟩
    · exact ⟨_, is (h3c ht), rfl⟩
    · exact ⟨_, is (h3 ht), rfl⟩
    · exact if_neg fun hr => ht ((mbcOf_eq_romOnly _).mp (by rw [hm, hr]))

end Sys2Proof.Machine

namespace Sys2Proof.Laws

/-! ## The encoding of every instruction (R160, R161, R171, R172) -/

/-- The law of each family, and of each row that stands alone. -/
theorem Encoding.statement (i : Instr) : Encoding.Statement i := by
  cases i using Instr.byFamily
  case ldRegReg r r' => cases r <;> cases r' <;> exact fun _ => ⟨rfl, rfl⟩
  case ldRegImm r n => cases r <;> exact Encoding.of_twoBytes rfl rfl rfl
  case ldRegAtHL r => cases r <;> exact fun _ => ⟨rfl, rfl⟩
  case ldAtHLReg r => cases r <;> exact fun _ => ⟨rfl, rfl⟩
  case ldPairImm rr nn =>
    cases rr
    · exact Encoding.ld_bc_nn nn
    · exact Encoding.ld_de_nn nn
    · exact Encoding.ld_hl_nn nn
    · exact Encoding.ld_sp_nn nn
  case pushPair rr => cases rr <;> exact fun _ => ⟨rfl, rfl⟩
  case popPair rr => cases rr <;> exact fun _ => ⟨rfl, rfl⟩
  case addHLPair rr => cases rr <;> exact fun _ => ⟨rfl, rfl⟩
  case incPair rr => cases rr <;> exact fun _ => ⟨rfl, rfl⟩
  case decPair rr => cases rr <;> exact fun _ => ⟨rfl, rfl⟩
  case aluReg op r => cases op <;> cases r <;> exact fun _ => ⟨rfl, rfl⟩
  case aluAtHL op => cases op <;> exact fun _ => ⟨rfl, rfl⟩
  case aluImm op n => cases op <;> exact Encoding.of_twoBytes rfl rfl rfl
  case incReg r => cases r <;> exact fun _ => ⟨rfl, rfl⟩
  case decReg r => cases r <;> exact fun _ => ⟨rfl, rfl⟩
  case rotReg op r => cases op <;> cases r <;> exact fun _ => ⟨rfl, rfl⟩
  case rotAtHL op => cases op <;> exact fun _ => ⟨rfl, rfl⟩
  case bitReg k r => fin_cases k <;> cases r <;> exact fun _ => ⟨rfl, rfl⟩
  case bitAtHL k => fin_cases k <;> exact fun _ => ⟨rfl, rfl⟩
  case resReg k r => fin_cases k <;> cases r <;> exact fun _ => ⟨rfl, rfl⟩
  case resAtHL k => fin_cases k <;> exact fun _ => ⟨rfl, rfl⟩
  case setReg k r => fin_cases k <;> cases r <;> exact fun _ => ⟨rfl, rfl⟩
  case setAtHL k => fin_cases k <;> exact fun _ => ⟨rfl, rfl⟩
  case jpCond cc nn =>
    cases cc
    · exact Encoding.jp_nz_nn nn
    · exact Encoding.jp_z_nn nn
    · exact Encoding.jp_nc_nn nn
    · exact Encoding.jp_c_nn nn
  case jrCond cc n => cases cc <;> exact Encoding.of_twoBytes rfl rfl rfl
  case callCond cc nn =>
    cases cc
    · exact Encoding.call_nz_nn nn
    · exact Encoding.call_z_nn nn
    · exact Encoding.call_nc_nn nn
    · exact Encoding.call_c_nn nn
  case retCond cc => cases cc <;> exact fun _ => ⟨rfl, rfl⟩
  case rst k => fin_cases k <;> exact fun _ => ⟨rfl, rfl⟩
  case invalid op => exact Encoding.invalid op
  case nop => exact Encoding.nop
  case ld_atBC_a => exact Encoding.ld_atBC_a
  case rlca => exact Encoding.rlca
  case ld_atNN_sp nn => exact Encoding.ld_atNN_sp nn
  case ld_a_atBC => exact Encoding.ld_a_atBC
  case rrca => exact Encoding.rrca
  case stop n => exact Encoding.stop n
  case ld_atDE_a => exact Encoding.ld_atDE_a
  case rla => exact Encoding.rla
  case jr_e e => exact Encoding.jr_e e
  case ld_a_atDE => exact Encoding.ld_a_atDE
  case rra => exact Encoding.rra
  case ld_atHLinc_a => exact Encoding.ld_atHLinc_a
  case daa => exact Encoding.daa
  case ld_a_atHLinc => exact Encoding.ld_a_atHLinc
  case cpl => exact Encoding.cpl
  case ld_atHLdec_a => exact Encoding.ld_atHLdec_a
  case inc_atHL => exact Encoding.inc_atHL
  case dec_atHL => exact Encoding.dec_atHL
  case ld_atHL_n n => exact Encoding.ld_atHL_n n
  case scf => exact Encoding.scf
  case ld_a_atHLdec => exact Encoding.ld_a_atHLdec
  case ccf => exact Encoding.ccf
  case halt => exact Encoding.halt
  case jp_nn nn => exact Encoding.jp_nn nn
  case ret => exact Encoding.ret
  case call_nn nn => exact Encoding.call_nn nn
  case reti => exact Encoding.reti
  case ldh_atN_a n => exact Encoding.ldh_atN_a n
  case ldh_atC_a => exact Encoding.ldh_atC_a
  case add_sp_e e => exact Encoding.add_sp_e e
  case jp_hl => exact Encoding.jp_hl
  case ld_atNN_a nn => exact Encoding.ld_atNN_a nn
  case ldh_a_atN n => exact Encoding.ldh_a_atN n
  case ldh_a_atC => exact Encoding.ldh_a_atC
  case di => exact Encoding.di
  case ld_hl_spPlusE e => exact Encoding.ld_hl_spPlusE e
  case ld_sp_hl => exact Encoding.ld_sp_hl
  case ld_a_atNN nn => exact Encoding.ld_a_atNN nn
  case ei => exact Encoding.ei

end Sys2Proof.Laws

namespace Sys2Proof.Machine

/-! ## The opcode maps cell by cell (R171, R172) -/

/-- A map of 16 rows and 16 columns, with the value of each byte where its high and its low nibble meet. -/
def byteMap {α : Type} (f : Byte → α) : List (List α) :=
  (List.range 16).map fun row => (List.range 16).map fun col => f (BitVec.ofNat 8 (16 * row + col))

/-- Where rows of instructions agree under g with a byteMap, so does the cell of each byte. -/
theorem lookup_of_byteMap {α : Type} {rows : List (List Instr)} {g : Instr → α} {f : Byte → α}
    (h : rows.map (List.map g) = byteMap f) (op : Byte) :
    ∃ row i, rows[op.toNat / 16]? = some row ∧ row[op.toNat % 16]? = some i ∧ g i = f op := by
  have hop := op.isLt
  have hrows := congrArg (·[op.toNat / 16]?) h
  simp only [byteMap, List.getElem?_map, List.getElem?_range (show op.toNat / 16 < 16 by omega),
    Option.map_some] at hrows
  obtain ⟨row, hrow, hcells⟩ := Option.map_eq_some_iff.mp hrows
  have hcols := congrArg (·[op.toNat % 16]?) hcells
  simp only [List.getElem?_map, List.getElem?_range (show op.toNat % 16 < 16 by omega), Option.map_some] at hcols
  obtain ⟨i, hi, hg⟩ := Option.map_eq_some_iff.mp hcols
  have hbyte : BitVec.ofNat 8 (16 * (op.toNat / 16) + op.toNat % 16) = op := by
    rw [Nat.div_add_mod, BitVec.ofNat_toNat, BitVec.setWidth_eq]
  exact ⟨row, i, hrow, hi, hg.trans (congrArg f hbyte)⟩

theorem decodeCB_of_byteMap {α : Type} {g : Instr → α} {f : Byte → α} (h : cbRows.map (List.map g) = byteMap f)
    (op : Byte) : g (decodeCB op) = f op := by
  obtain ⟨row, i, hrow, hi, hg⟩ := lookup_of_byteMap h op
  simp only [decodeCB, hrow, hi, Option.getD_some, hg]

theorem decodeBytes_of_byteMap {α : Type} {g : Instr → α} {f : Byte → α} {b1 b2 : Byte}
    (h : (mapRows b1 (ofBytes b2 b1)).map (List.map g) = byteMap f) (op : Byte) :
    g (decodeBytes op b1 b2) = f op := by
  obtain ⟨row, i, hrow, hi, hg⟩ := lookup_of_byteMap h op
  simp only [decodeBytes, hrow, hi, Option.getD_some, hg]

/-! ### The bit fields (R169, R170) -/

theorem decodeCB_eq_decodeCBFields (op : Byte) : decodeCB op = decodeCBFields op :=
  decodeCB_of_byteMap (g := id) rfl op

theorem mapRows_eq_decodeFields (b1 b2 : Byte) :
    mapRows b1 (ofBytes b2 b1) = byteMap fun op => decodeFields op b1 b2 := by
  simp only [mapRows, mapRowC, decodeCB_eq_decodeCBFields]
  rfl

/-- Settles O5: cell by cell, the map of R171 holds what the fields of the cell's byte select. -/
theorem opcodeMapsAgreeWithFields : Obligations.OpcodeMapsAgreeWithFields := by
  unfold Obligations.OpcodeMapsAgreeWithFields
  intro op b1 b2
  exact decodeBytes_of_byteMap (g := id) (by simpa using mapRows_eq_decodeFields b1 b2) op

/-! ### The bytes of what the maps give -/

theorem encode_decodeCB (op : Byte) : encode (decodeCB op) = [0xCB, op] :=
  decodeCB_of_byteMap (f := fun op => [0xCB, op]) rfl op

theorem wellFormed_decodeCB (op : Byte) : (decodeCB op).wellFormed = true :=
  decodeCB_of_byteMap (f := fun _ => true) rfl op

theorem mapRows_encode (nn : Word) :
    (mapRows (loByte nn) nn).map (List.map encode) =
      byteMap fun op => [op, loByte nn, hiByte nn].take (opLength op).bytes := by
  simp only [mapRows, mapRowC, List.map, encode_decodeCB]
  rfl

/-- The maps drop no bit: what they give has as its encoding the opcode byte and its operand bytes. -/
theorem encode_decodeBytes (op b1 b2 : Byte) :
    encode (decodeBytes op b1 b2) = [op, b1, b2].take (opLength op).bytes := by
  have h := mapRows_encode (ofBytes b2 b1)
  rw [loByte_ofBytes, hiByte_ofBytes] at h
  exact decodeBytes_of_byteMap h op

theorem mapRows_wellFormed (n : Byte) (nn : Word) :
    (mapRows n nn).map (List.map Instr.wellFormed) = byteMap fun _ => true := by
  simp only [mapRows, mapRowC, List.map, wellFormed_decodeCB]
  rfl

theorem wellFormed_decodeBytes (op b1 b2 : Byte) : (decodeBytes op b1 b2).wellFormed = true :=
  decodeBytes_of_byteMap (mapRows_wellFormed b1 _) op

/-! ## Decoding a byte sequence (R160, R161) -/

theorem opLength_bytes_pos (op : Byte) : 1 ≤ (opLength op).bytes := by
  cases opLength op <;> decide

theorem opLength_bytes_le (op : Byte) : (opLength op).bytes ≤ 3 := by
  cases opLength op <;> decide

/-- With as many operand bytes as the opcode byte calls for, decode answers the instruction of the maps. -/
theorem decode_cons_append {op : Byte} {ops : List Byte} (rest : List Byte)
    (h : ops.length + 1 = (opLength op).bytes) :
    decode (op :: (ops ++ rest)) = .ok (decodeBytes op (ops.getD 0 0) (ops.getD 1 0), rest) := by
  cases hl : opLength op <;> rw [hl] at h
  case one =>
    obtain rfl := List.length_eq_zero_iff.mp (Nat.succ.inj h)
    simp [decode, hl]
  case two =>
    obtain ⟨b1, rfl⟩ := List.length_eq_one_iff.mp (Nat.succ.inj h)
    simp [decode, hl]
  case three =>
    obtain ⟨b1, b2, rfl⟩ := List.length_eq_two.mp (Nat.succ.inj h)
    simp [decode, hl]

theorem decode_cons_truncated {op : Byte} {tail : List Byte} (h : tail.length + 1 < (opLength op).bytes) :
    decode (op :: tail) = .error .truncated := by
  cases hl : opLength op <;> rw [hl, OpLen.bytes] at h
  case one => omega
  case two =>
    obtain rfl : tail = [] := List.length_eq_zero_iff.mp (by omega)
    simp only [decode, hl]
  case three =>
    match tail with
    | [] => simp only [decode, hl]
    | [_] => simp only [decode, hl]
    | _ :: _ :: _ => simp only [List.length_cons] at h; omega

/-- A sequence that is long enough splits into the operand bytes and the rest. -/
theorem decode_cons_of_le {op : Byte} {tail : List Byte} (h : (opLength op).bytes ≤ tail.length + 1) :
    ∃ ops, ops ++ tail.drop ((opLength op).bytes - 1) = tail ∧ ops.length + 1 = (opLength op).bytes := by
  refine ⟨tail.take ((opLength op).bytes - 1), List.take_append_drop _ _, ?_⟩
  have hpos := opLength_bytes_pos op
  rw [List.length_take]
  omega

/-- Whatever decodes is an opcode byte, its operand bytes and the rest. -/
theorem decode_eq_ok {bytes rest : List Byte} {i : Instr} (h : decode bytes = .ok (i, rest)) :
    ∃ op ops, bytes = op :: (ops ++ rest) ∧ ops.length + 1 = (opLength op).bytes ∧
      i = decodeBytes op (ops.getD 0 0) (ops.getD 1 0) := by
  cases bytes with
  | nil => simp [decode] at h
  | cons op tail =>
    by_cases hlen : tail.length + 1 < (opLength op).bytes
    · simp [decode_cons_truncated hlen] at h
    · obtain ⟨ops, htail, hops⟩ := decode_cons_of_le (not_lt.mp hlen)
      rw [← htail, decode_cons_append _ hops] at h
      cases h
      exact ⟨op, ops, by rw [htail], hops, rfl⟩

/-! ### The round trips -/

theorem encode_eq_cons {i : Instr} (h : i.wellFormed = true) :
    ∃ op ops, encode i = op :: ops ∧ ops.length + 1 = (opLength op).bytes ∧
      decodeBytes op (ops.getD 0 0) (ops.getD 1 0) = i := by
  obtain ⟨hlen, hdec⟩ := Laws.Encoding.statement i h
  cases he : encode i with
  | nil =>
    have hpos := opLength_bytes_pos ((encode i).getD 0 0)
    rw [← hlen, he] at hpos
    exact absurd hpos (by decide)
  | cons op ops =>
    simp only [he, List.length_cons, List.getD_cons_zero, List.getD_cons_succ] at hlen hdec
    exact ⟨op, ops, rfl, hlen, hdec⟩

theorem encode_decodeBytes_operands {op : Byte} {ops : List Byte} (h : ops.length + 1 = (opLength op).bytes) :
    encode (decodeBytes op (ops.getD 0 0) (ops.getD 1 0)) = op :: ops := by
  have hle := opLength_bytes_le op
  rw [encode_decodeBytes, ← h]
  match ops, h with
  | [], _ => rfl
  | [_], _ => rfl
  | [_, _], _ => rfl
  | _ :: _ :: _ :: _, h => simp only [List.length_cons] at h; omega

/-- Settles O2: the encoding is an opcode byte and as many operand bytes as it calls for, which decode takes. -/
theorem decodeOfEncode : Obligations.DecodeOfEncode := by
  unfold Obligations.DecodeOfEncode
  intro i rest h
  obtain ⟨op, ops, he, hops, hi⟩ := encode_eq_cons h
  rw [he, List.cons_append, decode_cons_append rest hops, hi]

/-- Settles O3: what decodes is an opcode byte and its operand bytes, and the maps drop none of them. -/
theorem encodeOfDecode : Obligations.EncodeOfDecode := by
  unfold Obligations.EncodeOfDecode
  intro bytes rest i h
  obtain ⟨op, ops, rfl, hops, rfl⟩ := decode_eq_ok h
  exact ⟨wellFormed_decodeBytes _ _ _, by rw [encode_decodeBytes_operands hops, List.cons_append]⟩

/-- Settles O4: the operand bytes are as many as the first byte calls for, and a shorter sequence is truncated. -/
theorem lengthFollowsFromFirstByte : Obligations.LengthFollowsFromFirstByte := by
  unfold Obligations.LengthFollowsFromFirstByte
  refine ⟨fun op tail => ⟨fun hle => ?_, decode_cons_truncated, opLength_bytes_pos op, opLength_bytes_le op⟩,
    rfl, rfl, rfl, fun i h => (Laws.Encoding.statement i h).1⟩
  obtain ⟨ops, htail, hops⟩ := decode_cons_of_le hle
  have hdec := decode_cons_append (tail.drop ((opLength op).bytes - 1)) hops
  rw [htail] at hdec
  exact ⟨_, hdec⟩

/-- Settles O1: each word is decoded by the maps. -/
theorem writtenWordsDecode : Obligations.WrittenWordsDecode := by
  unfold Obligations.WrittenWordsDecode
  exact ⟨rfl, rfl, rfl, rfl, rfl, rfl, rfl, rfl, rfl, rfl, rfl, rfl, rfl, rfl⟩

/-! ## Reserved bytes (R173, R405) -/

theorem decodeBytes_reserved {op : Byte} (h : op ∈ reservedOpcodes) (b1 b2 : Byte) :
    decodeBytes op b1 b2 = .invalid op := by
  fin_cases h <;> rfl

/-- The maps give the row INVALID for a reserved byte only. -/
theorem decodeBytes_eq_invalid {op b1 b2 x : Byte} (h : decodeBytes op b1 b2 = .invalid x) : op ∈ reservedOpcodes := by
  have hx : x = op := by simpa [h, instrByte, encode] using instrByte_decodeBytes op b1 b2
  have hwf := wellFormed_decodeBytes op b1 b2
  rw [h, hx] at hwf
  exact of_decide_eq_true hwf

@[simp] theorem State.wake_takes (s : State) : s.wake.takes = s.takes := by
  unfold State.wake
  split <;> rfl

theorem State.wake_mode_ne_halted {s : State} (h : ¬ (s.mode = .halted ∧ s.ifr = 0)) : s.wake.mode ≠ .halted := by
  by_cases hw : s.mode = .halted ∧ s.ifr ≠ 0
  · simp [State.wake_eq_running hw]
  · rw [State.wake_eq_self hw]
    exact fun hm => hw ⟨hm, fun hi => h ⟨hm, hi⟩⟩

/-- The step that meets a reserved byte (R405). -/
theorem step_reserved {s : State} (hf : s.fault = none) (hstop : s.mode ≠ .stopped)
    (hhalt : ¬ (s.mode = .halted ∧ s.ifr = 0)) (ht : s.takes = none) (hres : s.readVal s.pc ∈ reservedOpcodes) :
    step s = .next { s.readEff s.pc with fault := some { op := s.readVal s.pc, pc := s.pc } } := by
  have hwake : s.wake.readVal s.wake.pc ∈ reservedOpcodes := by simpa using hres
  rw [step_awake hf hstop, awakeUnit_execute (by simpa using ht) (State.wake_mode_ne_halted hhalt),
    State.fetch_reserved hwake, decodeBytes_reserved hwake, State.readVal_wake, State.wake_pc, ← State.rolledBack_raise]
  rfl

/-- Settles O32: the maps hold INVALID at the reserved bytes alone, and the step that meets one is rolled back. -/
theorem reservedByteRecordsInvalidOpcode : Obligations.ReservedByteRecordsInvalidOpcode := by
  unfold Obligations.ReservedByteRecordsInvalidOpcode
  refine ⟨rfl, fun op b1 b2 => ⟨fun ⟨x, hx⟩ => decodeBytes_eq_invalid hx, fun h => ⟨op, decodeBytes_reserved h b1 b2⟩⟩,
    fun op b1 b2 h => decodeBytes_reserved h b1 b2, fun op s => rfl, fun s hf hstop hhalt ht hres => ?_⟩
  have hstep := step_reserved hf hstop hhalt ht hres
  refine ⟨hstep, ?_⟩
  unfold step at hstep
  simp only [stepResult, hstep]

/-! ## The step that runs an instruction (R190, R400 to R402) -/

theorem exec_completes (i : Instr) (s : State) : ∃ t, exec i s = .next t := by
  obtain ⟨t, -, ht, -⟩ := exec_effect i s
  exact ⟨t, ht⟩

theorem State.fetched_eq (s : State) : s.fetched = { s.readEff s.pc with pc := s.pc + 1 } := by
  rw [State.fetched, State.readEff_pc]

/-- Of the states after one, two and three bytes read at PC, the one in which so many of the three are left. -/
def afterBytes (s1 s2 s3 : State) : Nat → State
  | 2 => s1
  | 1 => s2
  | _ => s3

/-- A fetch gives what the three bytes at PC decode to, and reads no byte that decoding leaves. -/
theorem State.fetch_of_decode {s s1 s2 s3 : State} {i : Instr} {rest : List Byte} (h1 : s1 = s.fetchedOpcode)
    (h2 : s2 = s1.fetched) (h3 : s3 = s2.fetched) (hres : s.readVal s.pc ∉ reservedOpcodes)
    (hdec : decode [s.readVal s.pc, s1.readVal s1.pc, s2.readVal s2.pc] = .ok (i, rest)) :
    s.fetch = (i, afterBytes s1 s2 s3 rest.length) := by
  subst h1 h2 h3
  cases hl : opLength (s.readVal s.pc) <;> simp only [decode, hl] at hdec <;> cases hdec
  case one => exact State.fetch_one hres hl
  case two => exact State.fetch_two hres hl
  case three => exact State.fetch_three hres hl

theorem State.fetch_fst_ne_invalid {s : State} (h : s.readVal s.pc ∉ reservedOpcodes) (op : Byte) :
    s.fetch.1 ≠ .invalid op := by
  obtain ⟨b1, b2, hfetch⟩ := s.fetch_fst
  exact fun hinv => h (decodeBytes_eq_invalid (hfetch ▸ hinv))

@[simp] theorem State.fetch_fault (s : State) : s.fetch.2.fault = s.fault := by
  obtain ⟨-, h⟩ | ⟨-, h | h | h⟩ := s.fetch_state <;> rw [h] <;> simp

/-- With no fault and no dispatch, the step of a CPU that is awake executes what it fetches and commits EI. -/
theorem step_executes {s : State} (hf : s.fault = none) (hstop : s.mode ≠ .stopped) (hhalt : s.mode ≠ .halted)
    (ht : s.takes = none) (hres : s.readVal s.pc ∉ reservedOpcodes) :
    ∃ t, exec s.fetch.1 s.fetch.2 = .next t ∧ step s = .next (t.commitEi s.eiPending) := by
  obtain ⟨t, hexec⟩ := exec_completes s.fetch.1 s.fetch.2
  have hfault : t.fault = none := by
    rw [exec_fault hexec (State.fetch_fst_ne_invalid hres), State.fetch_fault, hf]
  refine ⟨t, hexec, ?_⟩
  rw [step_awake hf hstop, State.wake_eq_self fun h => hhalt h.1, awakeUnit_execute ht hhalt, hexec]
  simp only [finishUnit, hfault]

/-- The same with the three bytes at PC, read one after the other. -/
theorem step_of_decode {s s1 s2 s3 : State} {i : Instr} {rest : List Byte} (hf : s.fault = none)
    (hstop : s.mode ≠ .stopped) (hhalt : s.mode ≠ .halted) (ht : s.takes = none)
    (hres : s.readVal s.pc ∉ reservedOpcodes) (h1 : s1 = s.fetchedOpcode) (h2 : s2 = s1.fetched) (h3 : s3 = s2.fetched)
    (hdec : decode [s.readVal s.pc, s1.readVal s1.pc, s2.readVal s2.pc] = .ok (i, rest)) :
    ∃ t, exec i (afterBytes s1 s2 s3 rest.length) = .next t ∧ step s = .next (t.commitEi s.eiPending) := by
  have h := step_executes hf hstop hhalt ht hres
  rwa [State.fetch_of_decode h1 h2 h3 hres hdec] at h

/-- Settles O30: in mode Running the opcode fetch leaves PC one further, as an operand fetch does. -/
theorem stepRunsDecodedInstruction : Obligations.StepRunsDecodedInstruction := by
  unfold Obligations.StepRunsDecodedInstruction
  intro s i rest hf hm ht hres b0 s1 b1 s2 b2 s3 hdec start
  have h1 : s1 = s.fetchedOpcode := by rw [State.fetchedOpcode_other (by simp [hm]), State.fetched_eq]
  exact step_of_decode hf (by simp [hm]) (by simp [hm]) ht hres h1 s1.fetched_eq.symm s2.fetched_eq.symm hdec

/-- Settles O31: in mode HaltBug the opcode fetch leaves PC and makes the mode Running; the rest is as in O30. -/
theorem haltBugFetchesFirstByteTwice : Obligations.HaltBugFetchesFirstByteTwice := by
  unfold Obligations.HaltBugFetchesFirstByteTwice
  intro s i rest hf hm ht hres b0 s1 b1 s2 b2 s3 hdec start
  have h1 : s1 = s.fetchedOpcode := (State.fetchedOpcode_haltBug hm).symm
  exact step_of_decode hf (by simp [hm]) (by simp [hm]) ht hres h1 s1.fetched_eq.symm s2.fetched_eq.symm hdec

end Sys2Proof.Machine

namespace Sys2Proof.Machine

/-! ## 8-bit loads and stores (R200 to R218) -/

/-! ### The encoding of a family (R162, R163) -/

theorem encode_ldRegReg (dst src : Reg8) :
    encode (.ldRegReg dst src) = [opByte (0x40 + 8 * regCode dst + regCode src)] := by
  cases dst <;> cases src <;> rfl

theorem encode_ldRegImm (dst : Reg8) (n : Byte) :
    encode (.ldRegImm dst n) = [opByte (0x06 + 8 * regCode dst), n] := by
  cases dst <;> rfl

theorem encode_ldRegAtHL (dst : Reg8) : encode (.ldRegAtHL dst) = [opByte (0x46 + 8 * regCode dst)] := by
  cases dst <;> rfl

theorem encode_ldAtHLReg (src : Reg8) : encode (.ldAtHLReg src) = [opByte (0x70 + regCode src)] := by
  cases src <;> rfl

/-! ### Registers -/

@[simp] theorem State.setR_getR (r : Reg8) (s : State) : s.setR r (s.getR r) = s := by
  cases r <;> rfl

@[simp] theorem State.hiByte_hl (s : State) : hiByte s.hl = s.h := hiByte_ofBytes s.h s.l

/-! ### The statements -/

/-- Settles O7: each family by its shared meaning, and a register set to its own value as no change. -/
theorem loadRegister : Obligations.LoadRegister := by
  unfold Obligations.LoadRegister
  intro dst src n s
  have hself : exec (.ldRegReg dst dst) s = .next (s.tick 4) := by
    rw [exec_ldRegReg, loadRegReg, State.setR_getR]
  exact ⟨encode_ldRegReg dst src, exec_ldRegReg dst src s, hself, encode_ldRegImm dst n, exec_ldRegImm dst n s⟩

/-- Settles O8: LD r,(HL) by its shared meaning; each other row's meaning is its rule, where HL- moves HL by -1. -/
theorem loadFromMemory : Obligations.LoadFromMemory := by
  unfold Obligations.LoadFromMemory
  intro dst n nn s
  refine ⟨encode_ldRegAtHL dst, exec_ldRegAtHL dst s, rfl, rfl, rfl, rfl, rfl, rfl, rfl, rfl, rfl, rfl, rfl, rfl,
    rfl, ?_⟩
  rw [BitVec.sub_eq_add_neg]
  rfl

/-- Settles O9: LD (HL),r by its shared meaning, where H is the high byte of the address; each other row's meaning is
its rule, where HL- moves HL by -1. -/
theorem storeToMemory : Obligations.StoreToMemory := by
  unfold Obligations.StoreToMemory
  intro src n nn s
  have hself : exec (.ldAtHLReg .h) s = .next ((s.busWrite s.hl (hiByte s.hl)).tick 8) := by
    rw [State.hiByte_hl]
    exact exec_ldAtHLReg .h s
  refine ⟨encode_ldAtHLReg src, exec_ldAtHLReg src s, hself, rfl, rfl, rfl, rfl, rfl, rfl, rfl, rfl, rfl, rfl, rfl,
    rfl, rfl, rfl, rfl, ?_⟩
  rw [BitVec.sub_eq_add_neg]
  rfl

end Sys2Proof.Machine

namespace Sys2Proof.Machine

/-! ## 16-bit loads and the stack (R230 to R239) -/

section
variable {s : State} {a x : Word} {v : Byte}

/-! ### A stack in RAM

Work RAM below its mirror and high RAM are byte storages where a read has no effect and a write reaches its own address
alone. -/

/-- An address of work RAM (not of its mirror) or of high RAM (R47, R48). -/
def InRam (a : Word) : Prop := region a = .wram ∨ region a = .hram

/-- The two bytes that a push stores lie in RAM. -/
def State.StackInRam (s : State) : Prop := InRam (s.sp - 1) ∧ InRam (s.sp - 2)

theorem State.stackInRam_of_sp
    (h : (0xC002 ≤ s.sp.toNat ∧ s.sp.toNat ≤ 0xE000) ∨ (0xFF82 ≤ s.sp.toNat ∧ s.sp.toNat ≤ 0xFFFF)) :
    s.StackInRam := by
  simp only [State.StackInRam, InRam, region_eq_wram, region_eq_hram]
  bv_omega

theorem InRam.servedByPeriph (ha : InRam a) (s : State) : s.servedByPeriph a = false := by
  obtain hr | hr := ha <;> simp only [State.servedByPeriph, hr]

theorem InRam.readEff (ha : InRam a) (s : State) : s.readEff a = s := State.readEff_eq_self (ha.servedByPeriph s)

theorem InRam.writeReaches (ha : InRam a) (hx : InRam x) (hne : x ≠ a) (s : State) : s.writeReaches a x = false := by
  rw [← Bool.not_eq_true]
  obtain hr | hr := ha
  · rw [State.writeReaches_wram_or_mirror (.inl hr)]
    simp only [InRam, region_eq_wram, region_eq_mirror, region_eq_hram] at hr hx ⊢
    bv_omega
  · exact mt (State.writeReaches_ownAddress (.inr (.inl hr))).mp hne

theorem State.Inv.readVal_busWrite_inRam (hs : s.Inv) (ha : InRam a) : (s.busWrite a v).readVal a = v := by
  obtain hr | hr := ha
  · rw [region_eq_wram] at hr
    exact hs.readVal_busWrite_wram (by omega) (by omega) rfl
  · exact hs.readVal_busWrite_hram (region_eq_hram.mp hr)

/-! ### Push and pop -/

theorem State.Inv.withSP (hs : s.Inv) (sp : Word) : ({ s with sp := sp } : State).Inv := { hs with }

theorem State.sameMemory_withSP (s : State) (sp : Word) : s.SameMemory { s with sp := sp } := rfl

theorem State.Inv.readVal_push16_lo (hs : s.Inv) (h : s.StackInRam) (hi lo : Byte) :
    (s.push16 hi lo).readVal (s.sp - 2) = lo := by
  rw [State.push16_eq]
  exact (((hs.withSP _).busWrite _ hi).withSP _).readVal_busWrite_inRam h.2

/-- The low byte, stored second, leaves the high byte above it. -/
theorem State.Inv.readVal_push16_hi (hs : s.Inv) (h : s.StackInRam) (hi lo : Byte) :
    (s.push16 hi lo).readVal (s.sp - 1) = hi := by
  have hne : s.sp - 1 ≠ s.sp - 2 := by bv_omega
  rw [State.push16_eq, State.readVal_busWrite_of_not_reached (h.2.writeReaches h.1 hne _),
    (State.sameMemory_withSP _ _).readVal]
  exact (hs.withSP _).readVal_busWrite_inRam h.1

/-- From bytes in RAM a pop moves SP and changes nothing else (R231). -/
theorem State.popped16_of_inRam (h0 : InRam s.sp) (h1 : InRam (s.sp + 1)) : s.popped16 = { s with sp := s.sp + 2 } := by
  rw [State.popped16_eq, h0.readEff, h1.readEff]

theorem State.popHi_of_inRam (h0 : InRam s.sp) : s.popHi = s.readVal (s.sp + 1) := by
  rw [State.popHi_eq, h0.readEff, (s.sameMemory_withSP _).readVal]

/-- What one Push16 stores, Pop16 reads back, whatever came in between in the registers and the clock. -/
theorem State.Inv.pop_of_push16 (hs : s.Inv) (h : s.StackInRam) {hi lo : Byte} {t : State}
    (hmem : (s.push16 hi lo).SameMemory t) (hsp : t.sp = s.sp - 2) :
    t.popped16 = { t with sp := s.sp } ∧ t.popHi = hi ∧ t.popLo = lo := by
  have h1 : t.sp + 1 = s.sp - 1 := by bv_omega
  have h2 : t.sp + 2 = s.sp := by bv_omega
  have hram0 : InRam t.sp := hsp ▸ h.2
  have hram1 : InRam (t.sp + 1) := h1 ▸ h.1
  refine ⟨?_, ?_, ?_⟩
  · rw [State.popped16_of_inRam hram0 hram1, h2]
  · rw [State.popHi_of_inRam hram0, h1, hmem.readVal, hs.readVal_push16_hi h]
  · rw [State.popLo, hsp, hmem.readVal, hs.readVal_push16_lo h]

/-! ### Pairs of field rp2 (R165) -/

@[simp] theorem State.getStk_push16 (rr : RegStk) (hi lo : Byte) (s : State) :
    (s.push16 hi lo).getStk rr = s.getStk rr := by
  cases rr <;> simp only [State.getStk, State.push16_a, State.push16_f, State.push16_b, State.push16_c, State.push16_d,
    State.push16_e, State.push16_h, State.push16_l]

theorem State.getStk_withSP (rr : RegStk) (sp : Word) (s : State) :
    ({ s with sp := sp } : State).getStk rr = s.getStk rr := by
  cases rr <;> rfl

@[simp] theorem State.getStk_tick (rr : RegStk) (n : Nat) (s : State) : (s.tick n).getStk rr = s.getStk rr := by
  cases rr <;> rfl

/-- A pair set to its own value: AF too, as F has no low bits (R36). -/
theorem State.setStk_getStk (hf : s.f &&& 0x0F = 0) (rr : RegStk) :
    s.setStk rr (s.getStk rr).1 (s.getStk rr).2 = s := by
  cases rr with
  | bc | de | hl => rfl
  | af => simp only [State.setStk, State.getStk, Flags.and_F0_eq_toByte, Flags.toByte_ofByte hf]

end

/-! ### The encoding of a family (R164, R165) -/

theorem encode_ldPairImm (rr : Reg16) (nn : Word) :
    encode (.ldPairImm rr nn) = [opByte (0x01 + 16 * pairCode rr), loByte nn, hiByte nn] := by
  cases rr <;> rfl

theorem encode_pushPair (rr : RegStk) : encode (.pushPair rr) = [opByte (0xC5 + 16 * stkCode rr)] := by
  cases rr <;> rfl

theorem encode_popPair (rr : RegStk) : encode (.popPair rr) = [opByte (0xC1 + 16 * stkCode rr)] := by
  cases rr <;> rfl

/-! ### The statements -/

/-- Settles O12: the pop reads what the push stored, and sets the pair to the value it has. -/
theorem popUndoesPush : Obligations.PopUndoesPush := by
  unfold Obligations.PopUndoesPush
  intro rr s hs hsp
  have hram : s.StackInRam := State.stackInRam_of_sp hsp
  let p : State := s.push16 (s.getStk rr).1 (s.getStk rr).2
  let t : State := p.tick 16
  let u : State := { t with sp := s.sp }
  have hmem : p.SameMemory t := rfl
  have ht : t.sp = s.sp - 2 := (State.push16_sp _ _ s).trans (sub_one_sub_one s.sp)
  obtain ⟨hpop, hhi, hlo⟩ := hs.pop_of_push16 hram hmem ht
  have hstk : u.getStk rr = s.getStk rr := by rw [State.getStk_withSP, State.getStk_tick, State.getStk_push16]
  have hf : u.f &&& 0x0F = 0 := by simpa [u, t, p] using hs.flagsLow
  have hset : t.popped16.setStk rr t.popHi t.popLo = u := by
    rw [hpop, hhi, hlo, ← hstk]
    exact State.setStk_getStk hf rr
  refine ⟨t, u.tick 12, exec_pushPair rr s, ?_, ht, ?_, ?_, rfl, ?_⟩
  · rw [exec_popPair, popPair, hset]
  · rw [hmem.readVal, hs.readVal_push16_hi hram]
  · rw [hmem.readVal, hs.readVal_push16_lo hram]
  · rw [State.getStk_tick, hstk]

/-- Settles O10: each row's meaning is its rule, with the flags of SP+e as arithmetic. -/
theorem sixteenBitLoads : Obligations.SixteenBitLoads := by
  unfold Obligations.SixteenBitLoads
  intro rr nn e s
  have hspPlusE : exec (.ld_hl_spPlusE e) s =
      .next (((s.setHL (addSpE s.sp e).1).setFlags (addSpE s.sp e).2).tick 12) := rfl
  rw [hspPlusE, addSpE_eq]
  exact ⟨encode_ldPairImm rr nn, exec_ldPairImm rr nn s, rfl, rfl, rfl, rfl, rfl, rfl⟩

/-- Settles O11: each family by its shared meaning, with the bus transactions of Push16 and Pop16 in the open. -/
theorem pushAndPop : Obligations.PushAndPop := by
  unfold Obligations.PushAndPop
  intro rr s
  refine ⟨⟨encode_pushPair rr, ?_⟩, encode_popPair rr, ?_⟩
  · rw [exec_pushPair, pushPair, State.push16_eq]
  · rw [exec_popPair, popPair, State.popped16_eq, State.popHi_eq]
    cases rr <;> rfl

end Sys2Proof.Machine

namespace Sys2Proof.Machine

/-! ## 8-bit arithmetic and logic (R250 to R278) -/

/-! ### The operations on A -/

/-- The code of an ALU operation in field y (R168). -/
def aluCode : AluOp → Nat
  | .add => 0
  | .adc => 1
  | .sub => 2
  | .sbc => 3
  | .and => 4
  | .xor => 5
  | .or => 6
  | .cp => 7

theorem encode_aluSrc (op : AluOp) (src : AluSrc) : encode (src.instr op) = src.bytes (aluCode op) := by
  cases src with
  | reg r => cases op <;> cases r <;> rfl
  | atHL => cases op <;> rfl
  | imm n => cases op <;> rfl

/-- Every form of every ALU operation, with the new A and F in the open. -/
theorem exec_aluSrc_alu8 (op : AluOp) (src : AluSrc) (s : State) :
    exec (src.instr op) s =
      .next (({ src.read s with
        a := (alu8 op s.a (src.value s) s.flags.c).1
        f := (alu8 op s.a (src.value s) s.flags.c).2.toByte } : State).tick src.cost) := by
  rw [exec_aluSrc, State.applyAlu, AluSrc.read_a, AluSrc.read_flags]
  rfl

/-- XOR A is the register form on A itself (R266). -/
theorem exec_xor_a (s : State) : exec .xor_a s = .next (({ s with a := 0x00, f := 0x80 } : State).tick 4) := by
  have hself : alu8 .xor s.a s.a s.flags.c = (0x00, { z := true, n := false, h := false, c := false }) := by
    rw [alu8, xor8, BitVec.xor_self]
    rfl
  have hreg := exec_aluSrc_alu8 .xor (.reg .a) s
  rw [AluSrc.value, State.getR, hself] at hreg
  exact hreg

/-- CP applies the flags of a subtraction alone: A is set to the value it has (R272). -/
theorem exec_cpSrc (src : AluSrc) (s : State) :
    exec (src.instr .cp) s =
      .next (((src.read s).setFlags (sub8 s.a (src.value s) false).2).tick src.cost) := by
  have hself : (src.read s).setR .a s.a = src.read s := by
    rw [← AluSrc.read_a src s]
    exact State.setR_getR .a (src.read s)
  rw [exec_aluSrc, State.applyAlu, AluSrc.read_a, alu8, hself]

/-- The flags of a comparison: a subtraction without a borrow in is 0 when the bytes are equal (R272). -/
theorem sub8_flags_eq (a b : Byte) :
    (sub8 a b false).2 =
      { z := decide (a.toNat = b.toNat), n := true, h := decide (a.toNat % 16 < b.toNat % 16)
        c := decide (a.toNat < b.toNat) } := by
  have hz : (a.toNat + 512 - b.toNat - 0) % 256 = 0 ↔ a.toNat = b.toNat := by
    have ha := a.isLt
    have hb := b.isLt
    omega
  simp only [sub8_eq, Bool.toNat_false, Nat.add_zero, hz]

/-! ### INC and DEC -/

theorem encode_incPlace (p : Place) : encode (p.pick Instr.incReg .inc_atHL) = [opByte (0x04 + 8 * p.code)] := by
  cases p with
  | reg r => cases r <;> rfl
  | atHL => rfl

theorem encode_decPlace (p : Place) : encode (p.pick Instr.decReg .dec_atHL) = [opByte (0x05 + 8 * p.code)] := by
  cases p with
  | reg r => cases r <;> rfl
  | atHL => rfl

theorem exec_incPlace (p : Place) (s : State) :
    exec (p.pick Instr.incReg .inc_atHL) s =
      .next (((p.store (inc8 (p.value s) s.flags).1 s).setFlags (inc8 (p.value s) s.flags).2).tick
        (p.pick (fun _ => 4) 12)) := by
  cases p with
  | reg r => exact exec_incReg r s
  | atHL => rfl

theorem exec_decPlace (p : Place) (s : State) :
    exec (p.pick Instr.decReg .dec_atHL) s =
      .next (((p.store (dec8 (p.value s) s.flags).1 s).setFlags (dec8 (p.value s) s.flags).2).tick
        (p.pick (fun _ => 4) 12)) := by
  cases p with
  | reg r => exact exec_decReg r s
  | atHL => rfl

/-! ### The statements -/

/-- Settles O13: ADD is add8 with no carry in, ADC add8 with F.C. -/
theorem addAndAddWithCarry : Obligations.AddAndAddWithCarry := by
  unfold Obligations.AddAndAddWithCarry
  intro src s a v result
  refine ⟨encode_aluSrc .add src, ?_, encode_aluSrc .adc src, ?_⟩
  · rw [exec_aluSrc_alu8, alu8, add8_eq]
    rfl
  · rw [exec_aluSrc_alu8, alu8, add8_eq]
    rfl

/-- Settles O14: SUB is sub8 with no borrow in, SBC sub8 with F.C. -/
theorem subtractAndSubtractWithBorrow : Obligations.SubtractAndSubtractWithBorrow := by
  unfold Obligations.SubtractAndSubtractWithBorrow
  intro src s a v result
  refine ⟨encode_aluSrc .sub src, ?_, encode_aluSrc .sbc src, ?_⟩
  · rw [exec_aluSrc_alu8, alu8, sub8_eq]
    rfl
  · rw [exec_aluSrc_alu8, alu8, sub8_eq]
    rfl

/-- Settles O15: each operation gives A and F as its rule says; XOR A is the register form on A itself. -/
theorem andXorOr : Obligations.AndXorOr := by
  unfold Obligations.AndXorOr
  intro src s v result
  exact ⟨encode_aluSrc .and src, exec_aluSrc_alu8 .and src s, encode_aluSrc .xor src, exec_aluSrc_alu8 .xor src s,
    encode_aluSrc .or src, exec_aluSrc_alu8 .or src s, exec_xor_a s⟩

/-- Settles O16: CP keeps A and takes the flags of sub8; INC and DEC store what inc8 and dec8 give. -/
theorem compareIncrementDecrement : Obligations.CompareIncrementDecrement := by
  unfold Obligations.CompareIncrementDecrement
  constructor
  · intro src s a v
    refine ⟨encode_aluSrc .cp src, ?_⟩
    rw [exec_cpSrc, sub8_flags_eq]
    rfl
  · intro p s v
    refine ⟨encode_incPlace p, ?_, encode_decPlace p, ?_⟩
    · rw [exec_incPlace, inc8_eq]
      rfl
    · rw [exec_decPlace, dec8_eq]
      rfl

end Sys2Proof.Machine

namespace Sys2Proof.Machine

/-! ## 16-bit arithmetic (R290 to R293) -/

/-! ### The encoding of a family (R164) -/

theorem encode_addHLPair (rr : Reg16) : encode (.addHLPair rr) = [opByte (0x09 + 16 * pairCode rr)] := by
  cases rr <;> rfl

theorem encode_incPair (rr : Reg16) : encode (.incPair rr) = [opByte (0x03 + 16 * pairCode rr)] := by
  cases rr <;> rfl

theorem encode_decPair (rr : Reg16) : encode (.decPair rr) = [opByte (0x0B + 16 * pairCode rr)] := by
  cases rr <;> rfl

/-! ### The wrap of DEC rr (R293) -/

/-- Subtracting 1 modulo 2^16 is adding 0xFFFF. -/
theorem word_sub_one_eq_ofNat (v : Word) : v - 1 = BitVec.ofNat 16 (v.toNat + 65535) := by
  rw [BitVec.sub_eq_add_neg, BitVec.add_def]
  rfl

/-! ### The statement -/

/-- Settles O17: each family by its shared meaning, with the sums and the flags as arithmetic on integers. -/
theorem sixteenBitArithmetic : Obligations.SixteenBitArithmetic := by
  unfold Obligations.SixteenBitArithmetic
  intro rr e s x y
  have hspE : exec (.add_sp_e e) s =
      .next ((({ s with sp := (addSpE s.sp e).1 } : State).setFlags (addSpE s.sp e).2).tick 16) := rfl
  refine ⟨encode_addHLPair rr, ?_, rfl, ?_, encode_incPair rr, ?_, encode_decPair rr, ?_⟩
  · rw [exec_addHLPair, addPairToHL, addHL16_eq]
    rfl
  · rw [hspE, addSpE_eq]
    rfl
  · rw [exec_incPair, incrementPair, BitVec.add_def]
    rfl
  · rw [exec_decPair, decrementPair, word_sub_one_eq_ofNat]

end Sys2Proof.Machine

namespace Sys2Proof.Machine

/-! ## Accumulator adjust, carry control and CPU control (R300 to R309) -/

/-! ### DAA after an addition or a subtraction of packed BCD bytes (R250, R300)

A packed BCD byte is 16 times the tens plus the units. A decimal carry out of either digit is seen in the binary sum as a
carry or as a digit above 9, and a decimal borrow in the binary difference as a borrow. Each carry or borrow out of a digit
then needs the correction by 6 that takes the digit from base 16 to base 10. -/

section
variable {x y : Nat}

theorem toNat_bcdByte (hx : x < 100) : (bcdByte x).toNat = 16 * (x / 10) + x % 10 := by
  rw [bcdByte, BitVec.toNat_ofNat]
  omega

theorem toNat_bcdByte_mod (hx : x < 100) : (bcdByte x).toNat % 16 = x % 10 := by
  rw [toNat_bcdByte hx]
  omega

/-- Two equal residues make the same byte, so a result before narrowing may stand for a BCD byte. -/
theorem ofNat8_eq_bcdByte {r : Nat} (h : r % 256 = (16 * (x / 10) + x % 10) % 256) : BitVec.ofNat 8 r = bcdByte x :=
  BitVec.eq_of_toNat_eq (by rw [bcdByte, BitVec.toNat_ofNat, BitVec.toNat_ofNat]; exact h)

/-- R300 corrects the low digit of a sum exactly when the units carry. -/
theorem bcdSum_low_iff (hx : x < 100) (hy : y < 100) (c : Bool) :
    (15 < (bcdByte x).toNat % 16 + (bcdByte y).toNat % 16 + c.toNat ∨
        9 < ((bcdByte x).toNat + (bcdByte y).toNat + c.toNat) % 256 % 16) ↔
      10 ≤ x % 10 + y % 10 + c.toNat := by
  have hc : c.toNat ≤ 1 := c.toNat_le
  rw [toNat_bcdByte_mod hx, toNat_bcdByte_mod hy, toNat_bcdByte hx, toNat_bcdByte hy]
  omega

/-- The binary sum of two BCD bytes is above 0x99 exactly when the decimal sum is above 99. -/
theorem bcdSum_gt_iff (hx : x < 100) (hy : y < 100) (c : Bool) :
    0x99 < (bcdByte x).toNat + (bcdByte y).toNat + c.toNat ↔ 100 ≤ x + y + c.toNat := by
  have hc : c.toNat ≤ 1 := c.toNat_le
  rw [toNat_bcdByte hx, toNat_bcdByte hy]
  omega

/-- R300 corrects the high digit of a sum exactly when the whole sum carries. -/
theorem bcdSum_high_iff (hx : x < 100) (hy : y < 100) (c : Bool) :
    (255 < (bcdByte x).toNat + (bcdByte y).toNat + c.toNat ∨
        0x99 < ((bcdByte x).toNat + (bcdByte y).toNat + c.toNat) % 256) ↔
      100 ≤ x + y + c.toNat := by
  rw [← bcdSum_gt_iff hx hy]
  omega

/-- The half borrow of a difference is the decimal borrow of the units. -/
theorem bcdDifference_low_iff (hx : x < 100) (hy : y < 100) (c : Bool) :
    (bcdByte x).toNat % 16 < (bcdByte y).toNat % 16 + c.toNat ↔ x % 10 < y % 10 + c.toNat := by
  rw [toNat_bcdByte_mod hx, toNat_bcdByte_mod hy]

/-- The borrow of a difference is the decimal borrow. -/
theorem bcdDifference_high_iff (hx : x < 100) (hy : y < 100) (c : Bool) :
    (bcdByte x).toNat < (bcdByte y).toNat + c.toNat ↔ x < y + c.toNat := by
  have hc : c.toNat ≤ 1 := c.toNat_le
  rw [toNat_bcdByte hx, toNat_bcdByte hy]
  omega

/-- DAA applied to the result and the flags of an 8-bit operation. -/
def adjusted (r : Byte × Flags) : Byte × Flags := daa8 r.1 r.2

theorem adjusted_add8 (hx : x < 100) (hy : y < 100) (c : Bool) :
    (adjusted (add8 (bcdByte x) (bcdByte y) c)).1 = bcdByte ((x + y + c.toNat) % 100) ∧
      (adjusted (add8 (bcdByte x) (bcdByte y) c)).2.c = decide (100 ≤ x + y + c.toNat) := by
  have hc : c.toNat ≤ 1 := c.toNat_le
  simp only [adjusted, add8_eq, daa8_add, BitVec.toNat_ofNat, ← Bool.decide_or, bcdSum_low_iff hx hy,
    bcdSum_high_iff hx hy, decide_eq_true_eq, Nat.reducePow, and_true]
  apply ofNat8_eq_bcdByte
  rw [toNat_bcdByte hx, toNat_bcdByte hy]
  split <;> split <;> omega

theorem adjusted_sub8 (hx : x < 100) (hy : y < 100) (c : Bool) :
    (adjusted (sub8 (bcdByte x) (bcdByte y) c)).1 = bcdByte ((x + 200 - y - c.toNat) % 100) ∧
      (adjusted (sub8 (bcdByte x) (bcdByte y) c)).2.c = decide (x < y + c.toNat) := by
  have hc : c.toNat ≤ 1 := c.toNat_le
  simp only [adjusted, sub8_eq, daa8_sub, BitVec.toNat_ofNat, bcdDifference_low_iff hx hy,
    bcdDifference_high_iff hx hy, decide_eq_true_eq, Nat.reducePow, and_true]
  apply ofNat8_eq_bcdByte
  rw [toNat_bcdByte hx, toNat_bcdByte hy]
  split <;> split <;> omega

end

/-! ### The instructions -/

theorem exec_daa (s : State) :
    exec .daa s = .next (({ s with
      a := (daa8 s.a s.flags).1, f := (daa8 s.a s.flags).2.toByte } : State).tick 4) := rfl

/-- DAA after an operation on A and an immediate byte adjusts the result of that operation by its flags. -/
theorem exec_daa_of_aluImm {op : AluOp} {v : Byte} {s t : State}
    (h : exec ((AluSrc.imm v).instr op) s = .next t) :
    ∃ u, exec .daa t = .next u ∧ u.a = (adjusted (alu8 op s.a v s.flags.c)).1 ∧
      u.f.getLsbD 4 = (adjusted (alu8 op s.a v s.flags.c)).2.c := by
  rw [exec_aluSrc] at h
  cases h
  let t : State := (s.applyAlu op v).tick 8
  have hflags : t.flags = (alu8 op s.a v s.flags.c).2 := Flags.ofByte_toByte _
  have hdaa : daa8 t.a t.flags = adjusted (alu8 op s.a v s.flags.c) := congrArg (daa8 t.a) hflags
  refine ⟨_, exec_daa t, congrArg Prod.fst hdaa, ?_⟩
  rw [← hdaa]
  exact congrArg Flags.c (Flags.ofByte_toByte (daa8 t.a t.flags).2)

/-- HALT enters the mode that IME and the requests choose (R305). -/
theorem exec_halt (s : State) : exec .halt s = .next (({ s with mode := s.haltMode } : State).tick 4) := rfl

theorem State.haltMode_of_bug {s : State} (h : s.ime = false ∧ s.ie &&& s.ifr ≠ 0) : s.haltMode = .haltBug := if_pos h

theorem State.haltMode_of_not_bug {s : State} (h : ¬ (s.ime = false ∧ s.ie &&& s.ifr ≠ 0)) : s.haltMode = .halted :=
  if_neg h

/-! ### The statements -/

/-- Settles O19: DAA adjusts the sum or the difference that ADC or SBC left, digit by digit. -/
theorem daaGivesDecimalArithmetic : Obligations.DaaGivesDecimalArithmetic := by
  unfold Obligations.DaaGivesDecimalArithmetic
  intro x y s t hx hy ha k
  refine ⟨fun hadc => ?_, fun hsbc => ?_⟩
  · obtain ⟨u, hu, hua, huc⟩ := exec_daa_of_aluImm (op := .adc) hadc
    obtain ⟨hres, hcarry⟩ := adjusted_add8 hx hy s.flags.c
    rw [alu8, ha] at hua huc
    exact ⟨u, hu, hua.trans hres, huc.trans hcarry⟩
  · obtain ⟨u, hu, hua, huc⟩ := exec_daa_of_aluImm (op := .sbc) hsbc
    obtain ⟨hres, hborrow⟩ := adjusted_sub8 hx hy s.flags.c
    rw [alu8, ha] at hua huc
    exact ⟨u, hu, hua.trans hres, huc.trans hborrow⟩

/-- Settles O18: DAA by its flags' N as arithmetic; each other row's meaning is its rule. -/
theorem adjustAndCarryControl : Obligations.AdjustAndCarryControl := by
  unfold Obligations.AdjustAndCarryControl
  intro s z n h c a high low daa
  have hflags : s.flags = { z := z, n := n, h := h, c := c } := rfl
  refine ⟨rfl, fun hn => ?_, fun hn => ?_, rfl, rfl, rfl, rfl, rfl, rfl, rfl, rfl⟩
  · rw [exec_daa, hflags, hn, daa8_add]
    simp only [daa, hn]
    rfl
  · rw [exec_daa, hflags, hn, daa8_sub]
    simp only [daa, hn]
    rfl

/-- Settles O26: HALT by the mode it chooses; each other row's meaning is its rule. -/
theorem haltStopDisableEnable : Obligations.HaltStopDisableEnable := by
  unfold Obligations.HaltStopDisableEnable
  intro n s
  refine ⟨rfl, fun hbug => ?_, fun hnot => ?_, rfl, rfl, rfl, rfl, rfl, rfl⟩
  · rw [exec_halt, State.haltMode_of_bug hbug]
  · rw [exec_halt, State.haltMode_of_not_bug hnot]

end Sys2Proof.Machine

namespace Sys2Proof.Machine

/-! ## Rotates and shifts (R320 to R339) -/

/-! ### The encoding of a family (R169) -/

/-- The code of a rotate or shift in field rot (R169). -/
def rotCode : RotOp → Nat
  | .rlc => 0
  | .rrc => 1
  | .rl => 2
  | .rr => 3
  | .sla => 4
  | .sra => 5
  | .swap => 6
  | .srl => 7

theorem encode_rotPlace (op : RotOp) (p : Place) :
    encode (p.pick (Instr.rotReg op) (.rotAtHL op)) = [0xCB, opByte (8 * rotCode op + p.code)] := by
  cases p with
  | reg r => cases op <;> cases r <;> rfl
  | atHL => cases op <;> rfl

/-! ### What a rotate or shift leaves

The next state follows from the pair that rot8 gives: the value written back, as a number before narrowing, and the bit
that goes to C. -/

section
variable {op : RotOp} {s : State} {r : Nat} {carry : Bool}

theorem rotFlags_of_rot8 {v : Byte} (h : rot8 op v s.flags.c = (BitVec.ofNat 8 r, carry)) :
    rotFlags op v s.flags.c =
      (BitVec.ofNat 8 r, { z := decide (r % 256 = 0), n := false, h := false, c := carry }) := by
  simp only [rotFlags, h, ofNat8_eq_zero]

theorem exec_rotPlace (op : RotOp) (p : Place) (s : State) :
    exec (p.pick (Instr.rotReg op) (.rotAtHL op)) s =
      .next (((p.store (rotFlags op (p.value s) s.flags.c).1 s).setFlags
        (rotFlags op (p.value s) s.flags.c).2).tick (p.pick (fun _ => 8) 16)) := by
  cases p with
  | reg r => exact exec_rotReg op r s
  | atHL => exact exec_rotAtHL op s

/-- The CB forms take Z from the result (R324 to R339). -/
theorem exec_rotPlace_of_rot8 {p : Place} (h : rot8 op (p.value s) s.flags.c = (BitVec.ofNat 8 r, carry)) :
    exec (p.pick (Instr.rotReg op) (.rotAtHL op)) s =
      .next (({ p.store (BitVec.ofNat 8 r) s with
        f := Flags.toByte { z := decide (r % 256 = 0), n := false, h := false, c := carry } } : State).tick
        (p.pick (fun _ => 8) 16)) := by
  rw [exec_rotPlace, rotFlags_of_rot8 h]
  rfl

/-- The accumulator forms clear Z (R320 to R323). -/
theorem rotateAcc_of_rot8 (h : rot8 op s.a s.flags.c = (BitVec.ofNat 8 r, carry)) :
    rotateAcc op s =
      .next (({ s with
        a := BitVec.ofNat 8 r
        f := Flags.toByte { z := false, n := false, h := false, c := carry } } : State).tick 4) := by
  rw [rotateAcc, rotAFlags, h]
  rfl

end

/-! ### The statements -/

/-- Settles O20: each rotate as arithmetic on its operand, the CB forms with Z from the result, those of A with Z = 0. -/
theorem rotates : Obligations.Rotates := by
  unfold Obligations.Rotates
  intro p s v carry result
  refine ⟨encode_rotPlace .rlc p, ?rlc, encode_rotPlace .rrc p, ?rrc, encode_rotPlace .rl p, ?rl,
    encode_rotPlace .rr p, ?rr, rfl, ?rlca, rfl, ?rla, rfl, ?rrca, rfl, ?rra⟩
  case rlc => exact exec_rotPlace_of_rot8 (rot8_eq .rlc _ _)
  case rrc => exact exec_rotPlace_of_rot8 (rot8_eq .rrc _ _)
  case rl => exact exec_rotPlace_of_rot8 (rot8_eq .rl _ _)
  case rr => exact exec_rotPlace_of_rot8 (rot8_eq .rr _ _)
  case rlca => exact rotateAcc_of_rot8 (rot8_eq .rlc _ _)
  case rla => exact rotateAcc_of_rot8 (rot8_eq .rl _ _)
  case rrca => exact rotateAcc_of_rot8 (rot8_eq .rrc _ _)
  case rra => exact rotateAcc_of_rot8 (rot8_eq .rr _ _)

/-- Settles O21: each shift, and SWAP, as arithmetic on its operand. -/
theorem shifts : Obligations.Shifts := by
  unfold Obligations.Shifts
  intro p s v result
  refine ⟨encode_rotPlace .sla p, ?sla, encode_rotPlace .sra p, ?sra, encode_rotPlace .swap p, ?swap,
    encode_rotPlace .srl p, ?srl⟩
  case sla => exact exec_rotPlace_of_rot8 (rot8_eq .sla _ _)
  case sra => exact exec_rotPlace_of_rot8 (rot8_eq .sra _ _)
  case swap => exact exec_rotPlace_of_rot8 (rot8_eq .swap _ _)
  case srl => exact exec_rotPlace_of_rot8 (rot8_eq .srl _ _)

end Sys2Proof.Machine

namespace Sys2Proof.Machine

/-! ## Single-bit operations (R350 to R355) -/

/-! ### The encoding of a family (R169) -/

theorem encode_bitPlace (b : Fin 8) (p : Place) :
    encode (p.pick (Instr.bitReg b) (.bitAtHL b)) = [0xCB, opByte (0x40 + 8 * b.val + p.code)] := by
  cases p with
  | reg r => fin_cases b <;> cases r <;> rfl
  | atHL => fin_cases b <;> rfl

theorem encode_resPlace (b : Fin 8) (p : Place) :
    encode (p.pick (Instr.resReg b) (.resAtHL b)) = [0xCB, opByte (0x80 + 8 * b.val + p.code)] := by
  cases p with
  | reg r => fin_cases b <;> cases r <;> rfl
  | atHL => fin_cases b <;> rfl

theorem encode_setPlace (b : Fin 8) (p : Place) :
    encode (p.pick (Instr.setReg b) (.setAtHL b)) = [0xCB, opByte (0xC0 + 8 * b.val + p.code)] := by
  cases p with
  | reg r => fin_cases b <;> cases r <;> rfl
  | atHL => fin_cases b <;> rfl

/-! ### What a single-bit operation leaves -/

/-- BIT reads its operand and does not write it back (R350, R351). -/
theorem exec_bitPlace (b : Fin 8) (p : Place) (s : State) :
    exec (p.pick (Instr.bitReg b) (.bitAtHL b)) s =
      .next (((p.read s).setFlags (bitFlags b (p.value s) s.flags)).tick (p.pick (fun _ => 8) 12)) := by
  cases p with
  | reg r => exact exec_bitReg b r s
  | atHL => exact exec_bitAtHL b s

theorem exec_resPlace (b : Fin 8) (p : Place) (s : State) :
    exec (p.pick (Instr.resReg b) (.resAtHL b)) s =
      .next ((p.store (resBit b (p.value s)) s).tick (p.pick (fun _ => 8) 16)) := by
  cases p with
  | reg r => exact exec_resReg b r s
  | atHL => exact exec_resAtHL b s

theorem exec_setPlace (b : Fin 8) (p : Place) (s : State) :
    exec (p.pick (Instr.setReg b) (.setAtHL b)) s =
      .next ((p.store (setBit b (p.value s)) s).tick (p.pick (fun _ => 8) 16)) := by
  cases p with
  | reg r => exact exec_setReg b r s
  | atHL => exact exec_setAtHL b s

/-! ### The statement -/

/-- Settles O22: the bytes written back are those of resBit and setBit, which differ from the operand in bit b alone. -/
theorem singleBitOperations : Obligations.SingleBitOperations := by
  unfold Obligations.SingleBitOperations
  intro b p s v
  refine ⟨resBit b v, setBit b v, ?cleared, ?set, encode_bitPlace b p, exec_bitPlace b p s,
    encode_resPlace b p, exec_resPlace b p s, encode_setPlace b p, exec_setPlace b p s⟩
  case cleared =>
    intro k hk
    simpa only [Fin.ext_iff] using getLsbD_resBit b v ⟨k, hk⟩
  case set =>
    intro k hk
    simpa only [Fin.ext_iff] using getLsbD_setBit b v ⟨k, hk⟩

end Sys2Proof.Machine

namespace Sys2Proof.Machine

/-! ## Jumps, calls and returns (R360 to R377) -/

/-! ### The encoding of a family (R162, R166) -/

theorem encode_jpCond (cc : Cond) (nn : Word) :
    encode (.jpCond cc nn) = [opByte (0xC2 + 8 * condCode cc), loByte nn, hiByte nn] := by
  cases cc <;> rfl

theorem encode_jrCond (cc : Cond) (e : Byte) : encode (.jrCond cc e) = [opByte (0x20 + 8 * condCode cc), e] := by
  cases cc <;> rfl

theorem encode_callCond (cc : Cond) (nn : Word) :
    encode (.callCond cc nn) = [opByte (0xC4 + 8 * condCode cc), loByte nn, hiByte nn] := by
  cases cc <;> rfl

theorem encode_retCond (cc : Cond) : encode (.retCond cc) = [opByte (0xC0 + 8 * condCode cc)] := by
  cases cc <;> rfl

theorem encode_rst (k : Fin 8) : encode (.rst k) = [opByte (0xC7 + 8 * k.val)] := by
  fin_cases k <;> rfl

/-! ### The two next states of a conditional form -/

theorem exec_jpCond_next (cc : Cond) (nn : Word) (s : State) :
    exec (.jpCond cc nn) s = .next (if s.cond cc then ({ s with pc := nn } : State).tick 16 else s.tick 12) := by
  rw [exec_jpCond, jumpIf, next_ite]

theorem exec_jrCond_next (cc : Cond) (e : Byte) (s : State) :
    exec (.jrCond cc e) s = .next (if s.cond cc then (s.jumpRelative e).tick 12 else s.tick 8) := by
  rw [exec_jrCond, jumpRelativeIf, next_ite]

theorem exec_callCond_next (cc : Cond) (nn : Word) (s : State) :
    exec (.callCond cc nn) s = .next (if s.cond cc then (s.callTo nn).tick 24 else s.tick 12) := by
  rw [exec_callCond, callIf, next_ite]

theorem exec_retCond_next (cc : Cond) (s : State) :
    exec (.retCond cc) s = .next (if s.cond cc then s.popPC.tick 20 else s.tick 8) := by
  rw [exec_retCond, returnIf, next_ite]

/-! ### The stack transactions of a call and of a return -/

theorem exec_call_nn (nn : Word) (s : State) : exec (.call_nn nn) s = .next ((s.callTo nn).tick 24) := rfl

theorem exec_ret (s : State) : exec .ret s = .next (s.popPC.tick 16) := rfl

theorem exec_reti (s : State) : exec .reti s = .next (s.returnFromInterrupt.tick 16) := rfl

theorem State.callTo_eq (target : Word) (s : State) :
    s.callTo target =
      { ({ ({ s with sp := s.sp - 1 } : State).busWrite (s.sp - 1) (hiByte s.pc) with sp := s.sp - 2 } : State).busWrite
          (s.sp - 2) (loByte s.pc) with pc := target } := by
  rw [State.callTo, State.push16_eq]

theorem State.callTo_sp (target : Word) (s : State) : (s.callTo target).sp = s.sp - 2 :=
  (State.push16_sp _ _ s).trans (sub_one_sub_one s.sp)

theorem State.popPC_eq (s : State) :
    s.popPC =
      { ({ s.readEff s.sp with sp := s.sp + 1 } : State).readEff (s.sp + 1) with
        sp := s.sp + 2
        pc := ofBytes (({ s.readEff s.sp with sp := s.sp + 1 } : State).readVal (s.sp + 1)) (s.readVal s.sp) } := by
  rw [State.popPC, State.popped16_eq, State.popHi_eq, State.popLo]

/-- A return takes from the stack what a call put there: PC, and SP as it was (R365, R370, R377). -/
theorem State.Inv.popPC_of_callTo {s : State} (hs : s.Inv) (h : s.StackInRam) (target : Word) (n : Nat) :
    ((s.callTo target).tick n).popPC = { (s.callTo target).tick n with sp := s.sp, pc := s.pc } := by
  have hmem : (s.push16 (hiByte s.pc) (loByte s.pc)).SameMemory ((s.callTo target).tick n) := rfl
  obtain ⟨hpop, hhi, hlo⟩ := hs.pop_of_push16 h hmem (s.callTo_sp target)
  rw [State.popPC, hpop, hhi, hlo, ofBytes_hiByte_loByte]

/-! ### The statements -/

/-- Settles O25: CALL and RST are one call to their target, at different costs, and RET takes back what it put on the
stack. -/
theorem returnUndoesCall : Obligations.ReturnUndoesCall := by
  unfold Obligations.ReturnUndoesCall
  intro i nn k s hs hsp hi
  obtain ⟨n, hcall⟩ : ∃ n, exec i s = .next ((s.callTo nn).tick n) := by
    obtain rfl | ⟨rfl, rfl⟩ := hi
    · exact ⟨24, exec_call_nn nn s⟩
    · exact ⟨16, exec_rst k s⟩
  refine ⟨_, _, hcall, rfl, s.callTo_sp nn, exec_ret _, ?_⟩
  rw [hs.popPC_of_callTo (State.stackInRam_of_sp hsp)]

/-- Settles O23: each row's meaning is its rule, and a conditional form chooses by cond(cc). -/
theorem jumps : Obligations.Jumps := by
  unfold Obligations.Jumps
  intro cc nn e s holds
  have hcond : s.cond cc = holds := by cases cc <;> rfl
  rw [← hcond]
  exact ⟨rfl, rfl, encode_jpCond cc nn, exec_jpCond_next cc nn s, rfl, rfl, rfl, rfl, encode_jrCond cc e,
    exec_jrCond_next cc e s⟩

/-- Settles O24: each form by its shared meaning, with the bus transactions of Push16 and Pop16 in the open. -/
theorem callsAndReturns : Obligations.CallsAndReturns := by
  unfold Obligations.CallsAndReturns
  intro cc t nn s holds s1 pushed r1 popped
  have hcond : s.cond cc = holds := by cases cc <;> rfl
  have hcall (target : Word) : s.callTo target = { pushed with pc := target } := s.callTo_eq target
  have hret : s.popPC = popped := s.popPC_eq
  rw [← hcond, ← hcall, ← hcall, ← hret]
  refine ⟨rfl, exec_call_nn nn s, encode_callCond cc nn, exec_callCond_next cc nn s, encode_rst t, exec_rst t s, rfl,
    exec_ret s, encode_retCond cc, exec_retCond_next cc s, rfl, exec_reti s⟩

end Sys2Proof.Machine

namespace Sys2Proof.Machine

/-! ## The cost of an instruction (R192, R407, R480) -/

@[simp] theorem cyclesIn_zero (cfg : Config) : cyclesIn cfg 0 = 0 := by
  unfold cyclesIn
  cases cfg.cycleUnit <;> rfl

/-- The cost in T that the tables of R480 give an instruction in a state. -/
def instrCost (i : Instr) (s : State) : Nat := s.costT (instrByte i 0) (instrByte i 1)

/-- i answers a next state, later by the cost that the tables give it. -/
def HasCost (i : Instr) (s : State) : Prop :=
  ∃ t, exec i s = .next t ∧ t.clock = s.clock + cyclesIn s.cfg (instrCost i s)

/-- t is at the same time as s, and counts in the same unit. -/
structure State.SameTime (s t : State) : Prop where
  clock : t.clock = s.clock
  cfg   : t.cfg = s.cfg

/-- A meaning whose only change of the clock is one tick by its cost. -/
theorem HasCost.of_tick {i : Instr} {s t : State} {n : Nat} (hx : exec i s = .next (t.tick n)) (hn : instrCost i s = n)
    (h : s.SameTime t) : HasCost i s :=
  ⟨t.tick n, hx, by rw [State.tick_clock, h.clock, h.cfg, hn]⟩

/-- A conditional meaning: one tick by the cost of the branch that its condition chooses. -/
theorem HasCost.of_condition {i : Instr} {s t : State} {cc : Cond} {taken notTaken : Nat}
    (hx : exec i s = .next (if s.cond cc then t.tick taken else s.tick notTaken))
    (hn : instrCost i s = if s.cond cc = true then taken else notTaken) (h : s.SameTime t) : HasCost i s := by
  cases hc : s.cond cc with
  | true => exact HasCost.of_tick (by simpa [hc] using hx) (by simpa [hc] using hn) h
  | false => exact HasCost.of_tick (by simpa [hc] using hx) (by simpa [hc] using hn) ⟨rfl, rfl⟩

/-! ### The costs of the families (R480) -/

section
variable {i : Instr} {n : Nat} (s : State)

/-- Only a CB row's second byte counts; any other row that has no condition costs the cell of its opcode byte. -/
theorem instrCost_of_opcode (op : Byte) (h0 : instrByte i 0 = op)
    (h : op ≠ 0xCB ∧ conditionOf op = none ∧ costCell baseCostTable op = n) : instrCost i s = n := by
  obtain ⟨hcb, hcc, hn⟩ := h
  rw [instrCost, State.costT, h0, if_neg hcb, State.takesBranch, hcc, ← hn]
  rfl

theorem instrCost_of_condition {cc : Cond} {taken notTaken : Nat} (op : Byte) (h0 : instrByte i 0 = op)
    (h : op ≠ 0xCB ∧ conditionOf op = some cc ∧ costCell baseCostTable op = taken ∧ notTakenCost op = notTaken) :
    instrCost i s = if s.cond cc = true then taken else notTaken := by
  obtain ⟨hcb, hcc, ht, hn⟩ := h
  rw [instrCost, State.costT, h0, if_neg hcb, State.takesBranch, hcc, ht, hn]

theorem instrCost_ldRegImm (r : Reg8) (n : Byte) : instrCost (.ldRegImm r n) s = 8 :=
  instrCost_of_opcode s (opByte (0x06 + 8 * regCode r)) (by cases r <;> rfl) (by cases r <;> decide)

theorem instrCost_ldPairImm (rr : Reg16) (nn : Word) : instrCost (.ldPairImm rr nn) s = 12 :=
  instrCost_of_opcode s (opByte (0x01 + 16 * pairCode rr)) (by cases rr <;> rfl) (by cases rr <;> decide)

theorem instrCost_aluImm (op : AluOp) (n : Byte) : instrCost (.aluImm op n) s = 8 :=
  instrCost_of_opcode s (opByte (0xC6 + 8 * aluCode op)) (by cases op <;> rfl) (by cases op <;> decide)

theorem instrCost_jpCond (cc : Cond) (nn : Word) :
    instrCost (.jpCond cc nn) s = if s.cond cc = true then 16 else 12 :=
  instrCost_of_condition s (opByte (0xC2 + 8 * condCode cc)) (by cases cc <;> rfl) (by cases cc <;> decide)

theorem instrCost_jrCond (cc : Cond) (e : Byte) :
    instrCost (.jrCond cc e) s = if s.cond cc = true then 12 else 8 :=
  instrCost_of_condition s (opByte (0x20 + 8 * condCode cc)) (by cases cc <;> rfl) (by cases cc <;> decide)

theorem instrCost_callCond (cc : Cond) (nn : Word) :
    instrCost (.callCond cc nn) s = if s.cond cc = true then 24 else 12 :=
  instrCost_of_condition s (opByte (0xC4 + 8 * condCode cc)) (by cases cc <;> rfl) (by cases cc <;> decide)

theorem instrCost_retCond (cc : Cond) : instrCost (.retCond cc) s = if s.cond cc = true then 20 else 8 :=
  instrCost_of_condition s (opByte (0xC0 + 8 * condCode cc)) (by cases cc <;> rfl) (by cases cc <;> decide)

theorem instrCost_invalid {op : Byte} (h : op ∈ reservedOpcodes) : instrCost (.invalid op) s = 0 := by
  fin_cases h <;> rfl

end

/-! ### The operations that take no time of their own -/

namespace State.SameTime

variable {s t : State}

theorem refl : s.SameTime s := ⟨rfl, rfl⟩

theorem setR (h : s.SameTime t) (r : Reg8) (v : Byte) : s.SameTime (t.setR r v) :=
  ⟨by simpa using h.clock, by simpa using h.cfg⟩

theorem setRR (h : s.SameTime t) (rr : Reg16) (v : Word) : s.SameTime (t.setRR rr v) :=
  ⟨by simpa using h.clock, by simpa using h.cfg⟩

theorem setStk (h : s.SameTime t) (rr : RegStk) (hi lo : Byte) : s.SameTime (t.setStk rr hi lo) :=
  ⟨by simpa using h.clock, by simpa using h.cfg⟩

theorem setHL (h : s.SameTime t) (v : Word) : s.SameTime (t.setHL v) := ⟨h.clock, h.cfg⟩

theorem setFlags (h : s.SameTime t) (fl : Flags) : s.SameTime (t.setFlags fl) := ⟨h.clock, h.cfg⟩

theorem withPC (h : s.SameTime t) (v : Word) : s.SameTime { t with pc := v } := ⟨h.clock, h.cfg⟩

theorem withSP (h : s.SameTime t) (v : Word) : s.SameTime { t with sp := v } := ⟨h.clock, h.cfg⟩

theorem read (h : s.SameTime t) (x : Word) : s.SameTime (t.readEff x) :=
  ⟨by simpa using h.clock, by simpa using h.cfg⟩

theorem write (h : s.SameTime t) (x : Word) (v : Byte) : s.SameTime (t.busWrite x v) :=
  ⟨by simpa using h.clock, by simpa using h.cfg⟩

theorem applyAlu (h : s.SameTime t) (op : AluOp) (v : Byte) : s.SameTime (t.applyAlu op v) :=
  (h.setR .a _).setFlags _

theorem push16 (h : s.SameTime t) (hi lo : Byte) : s.SameTime (t.push16 hi lo) :=
  ⟨by simpa using h.clock, by simpa using h.cfg⟩

theorem callTo (h : s.SameTime t) (target : Word) : s.SameTime (t.callTo target) := (h.push16 _ _).withPC target

theorem popped16 (h : s.SameTime t) : s.SameTime t.popped16 := ⟨by simpa using h.clock, by simpa using h.cfg⟩

theorem popPC (h : s.SameTime t) : s.SameTime t.popPC := h.popped16.withPC _

end State.SameTime

open HasCost (of_tick of_condition)
open State.SameTime (refl)

/-! ### Every instruction -/

/-- Every instruction takes the time that the tables give its bytes. -/
theorem exec_hasCost (i : Instr) : i.wellFormed = true → ∀ s : State, HasCost i s := by
  cases i using Instr.byFamily
  case ldRegReg r r' =>
    exact fun _ s => of_tick (exec_ldRegReg r r' s) (by cases r <;> cases r' <;> rfl) (refl.setR _ _)
  case ldRegImm r n => exact fun _ s => of_tick (exec_ldRegImm r n s) (instrCost_ldRegImm s r n) (refl.setR _ _)
  case ldRegAtHL r => exact fun _ s => of_tick (exec_ldRegAtHL r s) (by cases r <;> rfl) ((refl.read _).setR _ _)
  case ldAtHLReg r => exact fun _ s => of_tick (exec_ldAtHLReg r s) (by cases r <;> rfl) (refl.write _ _)
  case ldPairImm rr nn => exact fun _ s => of_tick (exec_ldPairImm rr nn s) (instrCost_ldPairImm s rr nn) (refl.setRR _ _)
  case pushPair rr => exact fun _ s => of_tick (exec_pushPair rr s) (by cases rr <;> rfl) (refl.push16 _ _)
  case popPair rr => exact fun _ s => of_tick (exec_popPair rr s) (by cases rr <;> rfl) (refl.popped16.setStk _ _ _)
  case addHLPair rr =>
    exact fun _ s => of_tick (exec_addHLPair rr s) (by cases rr <;> rfl) ((refl.setHL _).setFlags _)
  case incPair rr => exact fun _ s => of_tick (exec_incPair rr s) (by cases rr <;> rfl) (refl.setRR _ _)
  case decPair rr => exact fun _ s => of_tick (exec_decPair rr s) (by cases rr <;> rfl) (refl.setRR _ _)
  case aluReg op r =>
    exact fun _ s => of_tick (exec_aluReg op r s) (by cases op <;> cases r <;> rfl) (refl.applyAlu _ _)
  case aluAtHL op =>
    exact fun _ s => of_tick (exec_aluAtHL op s) (by cases op <;> rfl) ((refl.read _).applyAlu _ _)
  case aluImm op n => exact fun _ s => of_tick (exec_aluImm op n s) (instrCost_aluImm s op n) (refl.applyAlu _ _)
  case incReg r => exact fun _ s => of_tick (exec_incReg r s) (by cases r <;> rfl) ((refl.setR _ _).setFlags _)
  case decReg r => exact fun _ s => of_tick (exec_decReg r s) (by cases r <;> rfl) ((refl.setR _ _).setFlags _)
  case rotReg op r =>
    exact fun _ s => of_tick (exec_rotReg op r s) (by cases op <;> cases r <;> rfl) ((refl.setR _ _).setFlags _)
  case rotAtHL op =>
    exact fun _ s => of_tick (exec_rotAtHL op s) (by cases op <;> rfl) (((refl.read _).write _ _).setFlags _)
  case bitReg k r =>
    exact fun _ s => of_tick (exec_bitReg k r s) (by fin_cases k <;> cases r <;> rfl) (refl.setFlags _)
  case bitAtHL k =>
    exact fun _ s => of_tick (exec_bitAtHL k s) (by fin_cases k <;> rfl) ((refl.read _).setFlags _)
  case resReg k r =>
    exact fun _ s => of_tick (exec_resReg k r s) (by fin_cases k <;> cases r <;> rfl) (refl.setR _ _)
  case resAtHL k =>
    exact fun _ s => of_tick (exec_resAtHL k s) (by fin_cases k <;> rfl) ((refl.read _).write _ _)
  case setReg k r =>
    exact fun _ s => of_tick (exec_setReg k r s) (by fin_cases k <;> cases r <;> rfl) (refl.setR _ _)
  case setAtHL k =>
    exact fun _ s => of_tick (exec_setAtHL k s) (by fin_cases k <;> rfl) ((refl.read _).write _ _)
  case jpCond cc nn =>
    exact fun _ s => of_condition (exec_jpCond_next cc nn s) (instrCost_jpCond s cc nn) (refl.withPC _)
  case jrCond cc e =>
    exact fun _ s => of_condition (exec_jrCond_next cc e s) (instrCost_jrCond s cc e) (refl.withPC _)
  case callCond cc nn =>
    exact fun _ s => of_condition (exec_callCond_next cc nn s) (instrCost_callCond s cc nn) (refl.callTo _)
  case retCond cc =>
    exact fun _ s => of_condition (exec_retCond_next cc s) (instrCost_retCond s cc) refl.popPC
  case rst k => exact fun _ s => of_tick (exec_rst k s) (by fin_cases k <;> rfl) (refl.callTo _)
  case invalid op =>
    intro hwf s
    refine ⟨_, rfl, ?_⟩
    rw [instrCost_invalid s (of_decide_eq_true hwf), cyclesIn_zero]
    rfl
  case nop => exact fun _ s => of_tick rfl rfl refl
  case ld_atBC_a => exact fun _ s => of_tick rfl rfl (refl.write _ _)
  case rlca => exact fun _ s => of_tick rfl rfl ((refl.setR .a _).setFlags _)
  case ld_atNN_sp _ => exact fun _ s => of_tick rfl (instrCost_of_opcode s 0x08 rfl (by decide)) ((refl.write _ _).write _ _)
  case ld_a_atBC => exact fun _ s => of_tick rfl rfl ((refl.read _).setR .a _)
  case rrca => exact fun _ s => of_tick rfl rfl ((refl.setR .a _).setFlags _)
  case stop _ => exact fun _ s => of_tick rfl (instrCost_of_opcode s 0x10 rfl (by decide)) ⟨rfl, rfl⟩
  case ld_atDE_a => exact fun _ s => of_tick rfl rfl (refl.write _ _)
  case rla => exact fun _ s => of_tick rfl rfl ((refl.setR .a _).setFlags _)
  case jr_e _ => exact fun _ s => of_tick rfl (instrCost_of_opcode s 0x18 rfl (by decide)) (refl.withPC _)
  case ld_a_atDE => exact fun _ s => of_tick rfl rfl ((refl.read _).setR .a _)
  case rra => exact fun _ s => of_tick rfl rfl ((refl.setR .a _).setFlags _)
  case ld_atHLinc_a => exact fun _ s => of_tick rfl rfl ((refl.write _ _).setHL _)
  case daa => exact fun _ s => of_tick rfl rfl ((refl.setR .a _).setFlags _)
  case ld_a_atHLinc => exact fun _ s => of_tick rfl rfl (((refl.read _).setR .a _).setHL _)
  case cpl => exact fun _ s => of_tick rfl rfl ((refl.setR .a _).setFlags _)
  case ld_atHLdec_a => exact fun _ s => of_tick rfl rfl ((refl.write _ _).setHL _)
  case inc_atHL => exact fun _ s => of_tick rfl rfl (((refl.read _).write _ _).setFlags _)
  case dec_atHL => exact fun _ s => of_tick rfl rfl (((refl.read _).write _ _).setFlags _)
  case ld_atHL_n _ => exact fun _ s => of_tick rfl (instrCost_of_opcode s 0x36 rfl (by decide)) (refl.write _ _)
  case scf => exact fun _ s => of_tick rfl rfl (refl.setFlags _)
  case ld_a_atHLdec => exact fun _ s => of_tick rfl rfl (((refl.read _).setR .a _).setHL _)
  case ccf => exact fun _ s => of_tick rfl rfl (refl.setFlags _)
  case halt => exact fun _ s => of_tick rfl rfl ⟨rfl, rfl⟩
  case jp_nn _ => exact fun _ s => of_tick rfl (instrCost_of_opcode s 0xC3 rfl (by decide)) (refl.withPC _)
  case ret => exact fun _ s => of_tick rfl rfl refl.popPC
  case call_nn _ => exact fun _ s => of_tick rfl (instrCost_of_opcode s 0xCD rfl (by decide)) (refl.callTo _)
  case reti => exact fun _ s => of_tick rfl rfl ⟨refl.popPC.clock, refl.popPC.cfg⟩
  case ldh_atN_a _ => exact fun _ s => of_tick rfl (instrCost_of_opcode s 0xE0 rfl (by decide)) (refl.write _ _)
  case ldh_atC_a => exact fun _ s => of_tick rfl rfl (refl.write _ _)
  case add_sp_e _ => exact fun _ s => of_tick rfl (instrCost_of_opcode s 0xE8 rfl (by decide)) ((refl.withSP _).setFlags _)
  case jp_hl => exact fun _ s => of_tick rfl rfl (refl.withPC _)
  case ld_atNN_a _ => exact fun _ s => of_tick rfl (instrCost_of_opcode s 0xEA rfl (by decide)) (refl.write _ _)
  case ldh_a_atN _ => exact fun _ s => of_tick rfl (instrCost_of_opcode s 0xF0 rfl (by decide)) ((refl.read _).setR .a _)
  case ldh_a_atC => exact fun _ s => of_tick rfl rfl ((refl.read _).setR .a _)
  case di => exact fun _ s => of_tick rfl rfl ⟨rfl, rfl⟩
  case ld_hl_spPlusE _ =>
    exact fun _ s => of_tick rfl (instrCost_of_opcode s 0xF8 rfl (by decide)) ((refl.setHL _).setFlags _)
  case ld_sp_hl => exact fun _ s => of_tick rfl rfl (refl.withSP _)
  case ld_a_atNN _ => exact fun _ s => of_tick rfl (instrCost_of_opcode s 0xFA rfl (by decide)) ((refl.read _).setR .a _)
  case ei => exact fun _ s => of_tick rfl rfl ⟨rfl, rfl⟩

/-- Settles O27: family by family, one tick by the cost that the tables give its bytes. -/
theorem everyInstructionCompletesAtItsCost : Obligations.EveryInstructionCompletesAtItsCost := by
  unfold Obligations.EveryInstructionCompletesAtItsCost
  exact fun i s h => exec_hasCost i h s

end Sys2Proof.Machine

namespace Sys2Proof.Machine

/-! ## The host's reset (R444, R55, R56) -/

section
variable (cfg : Config) (cart : Cart) (mbc : Mbc) (cram : Memory) (dr : Draws)

@[simp] theorem State.initial_clock : (State.initial cfg cart mbc cram dr).clock = 0 := by
  unfold State.initial initialRegs
  split <;> rfl

@[simp] theorem State.initial_pc : (State.initial cfg cart mbc cram dr).pc = 0x0100 := by
  unfold State.initial initialRegs
  split <;> rfl

end

/-- Under UNSPECIFIED the registers, the stack pointer and IF are draws (R56). -/
theorem State.initial_unspecified {cfg : Config} (hp : cfg.resetProfile = .unspecified) (cart : Cart) (mbc : Mbc)
    (cram : Memory) (dr : Draws) :
    State.initial cfg cart mbc cram dr =
      { State.reset with
        cfg := cfg, cart := cart, mbc := mbc, cram := cram
        wram := Memory.ofCells 0x2000 dr.wram, hram := Memory.ofCells 0x7F dr.hram
        a := dr.a, f := dr.f &&& 0xF0, b := dr.b, c := dr.c, d := dr.d, e := dr.e, h := dr.h, l := dr.l
        sp := dr.sp, ifr := dr.ifr } := by
  simp only [State.initial, hp, initialRegs]

theorem Mbc.liveClock_atReset (m : Mbc) : m.atReset.liveClock = m.liveClock := by
  cases m <;> rfl

theorem Mbc.latched_atReset (m : Mbc) : m.atReset.latched = m.latched := by
  cases m <;> rfl

theorem Mbc.atReset_eq_mbc1 {m : Mbc} {m1 : Mbc1} (h : m.atReset = .mbc1 m1) : m1 = Mbc1.atLoad := by
  cases m <;> cases h
  rfl

theorem Mbc.atReset_eq_mbc3 {m : Mbc} {m3 : Mbc3} (h : m.atReset = .mbc3 m3) :
    m3 = { Mbc3.atLoad m3.hasRtc with live := m3.live, latched := m3.latched } := by
  cases m <;> cases h
  rfl

/-! ### What does not depend on the profile -/

section
variable (s : State) (dr : Draws)

@[simp] theorem State.hostReset_cfg : (s.hostReset dr).cfg = s.cfg := State.initial_cfg _ _ _ _ _

@[simp] theorem State.hostReset_cart : (s.hostReset dr).cart = s.cart := State.initial_cart _ _ _ _ _

@[simp] theorem State.hostReset_mbc : (s.hostReset dr).mbc = s.mbc.atReset := State.initial_mbc _ _ _ _ _

@[simp] theorem State.hostReset_cram : (s.hostReset dr).cram = s.cram := State.initial_cram _ _ _ _ _

@[simp] theorem State.hostReset_fault : (s.hostReset dr).fault = none := State.initial_fault _ _ _ _ _

@[simp] theorem State.hostReset_clock : (s.hostReset dr).clock = 0 := State.initial_clock _ _ _ _ _

@[simp] theorem State.hostReset_mode : (s.hostReset dr).mode = .running := State.initial_mode _ _ _ _ _

@[simp] theorem State.hostReset_ime : (s.hostReset dr).ime = false := State.initial_ime _ _ _ _ _

@[simp] theorem State.hostReset_eiPending : (s.hostReset dr).eiPending = false := State.initial_eiPending _ _ _ _ _

@[simp] theorem State.hostReset_pc : (s.hostReset dr).pc = 0x0100 := State.initial_pc _ _ _ _ _

@[simp] theorem State.hostReset_ie : (s.hostReset dr).ie = 0 := State.initial_ie _ _ _ _ _

@[simp] theorem State.hostReset_wram : (s.hostReset dr).wram = Memory.ofCells 0x2000 dr.wram := State.initial_wram _ _ _ _ _

@[simp] theorem State.hostReset_hram : (s.hostReset dr).hram = Memory.ofCells 0x7F dr.hram := State.initial_hram _ _ _ _ _

end

/-! ### The statement -/

/-- Settles O58: the reset is the load state of the console's own cartridge, RAM and clocks, under either profile. -/
theorem hostResetKeepsCartridgeMemory : Obligations.HostResetKeepsCartridgeMemory := by
  unfold Obligations.HostResetKeepsCartridgeMemory
  intro s dr t
  have hmbc : t.mbc = s.mbc.atReset := s.hostReset_mbc dr
  rw [hmbc]
  refine ⟨s.hostReset_cfg dr, s.hostReset_cart dr, s.hostReset_cram dr, s.mbc.sameVariant_atReset,
    s.mbc.liveClock_atReset, s.mbc.latched_atReset, s.hostReset_fault dr, s.hostReset_clock dr, s.hostReset_mode dr,
    s.hostReset_ime dr, s.hostReset_eiPending dr, s.hostReset_pc dr, s.hostReset_ie dr, s.hostReset_wram dr,
    s.hostReset_hram dr, fun m => Mbc.atReset_eq_mbc1, fun m hm => ?mbc3, fun hp => ?dmgPostBoot, fun hp => ?unspecified⟩
  case mbc3 =>
    rw [Mbc.atReset_eq_mbc3 hm]
    exact ⟨rfl, rfl, rfl, rfl⟩
  case dmgPostBoot =>
    simp only [t, State.hostReset, State.initial_dmgPostBoot hp]
    exact ⟨rfl, rfl, rfl, rfl, rfl, rfl, rfl, rfl, rfl, rfl⟩
  case unspecified =>
    simp only [t, State.hostReset, State.initial_unspecified hp, and_self]

end Sys2Proof.Machine

namespace Sys2Proof.Machine

/-! ## Interrupts (R412, R413, R420 to R423) -/

/-! ### The lowest enabled request -/

/-- The lowest bit set among five. -/
def lowestSetBit (m : BitVec 5) : Option (Fin 5) :=
  if m.getLsbD 0 then some 0
  else if m.getLsbD 1 then some 1
  else if m.getLsbD 2 then some 2
  else if m.getLsbD 3 then some 3
  else if m.getLsbD 4 then some 4
  else none

theorem lowestSetBit_eq_some (m : BitVec 5) (k : Fin 5) :
    lowestSetBit m = some k ↔ m.getLsbD k = true ∧ ∀ j : Fin 5, j < k → ¬ m.getLsbD j = true := by
  revert m k
  decide

theorem lowestSetBit_eq_none (m : BitVec 5) : lowestSetBit m = none ↔ ∀ k : Fin 5, ¬ m.getLsbD k = true := by
  revert m
  decide

theorem State.pending_eq (s : State) : s.pending = lowestSetBit (s.ie &&& s.ifr) := rfl

/-- What pending() gives is requested, so a request has woken the CPU (R430). -/
theorem State.ifr_ne_zero_of_pending {s : State} {k : Fin 5} (h : s.pending = some k) : s.ifr ≠ 0 := by
  intro hifr
  simp [State.pending, hifr] at h

theorem State.takes_of_noRequest {s : State} (h : s.ifr = 0) : s.takes = none := by
  simp [State.takes, State.pending, h]

theorem State.takes_eq_some {s : State} {k : Fin 5} : s.takes = some k ↔ s.ime = true ∧ s.pending = some k := by
  unfold State.takes
  split <;> simp_all

/-- Settles O37: a request is enabled where IE and IF both have its bit. -/
theorem lowestEnabledRequestFirst : Obligations.LowestEnabledRequestFirst := by
  unfold Obligations.LowestEnabledRequestFirst
  intro s
  have both (k : Fin 5) : (s.ie.getLsbD k.val = true ∧ s.ifr.getLsbD k.val = true) ↔
      (s.ie &&& s.ifr).getLsbD k.val = true := by
    rw [BitVec.getLsbD_and, Bool.and_eq_true]
  simp only [both, State.pending_eq]
  exact ⟨lowestSetBit_eq_some _, lowestSetBit_eq_none _, fun k => State.takes_eq_some⟩

/-! ### The dispatch -/

/-- A wake makes the mode Running, and leaves any mode but Halted. -/
theorem State.wake_mode {s : State} (h : ¬ (s.mode = .halted ∧ s.ifr = 0)) :
    s.wake.mode = if s.mode = .halted then .running else s.mode := by
  by_cases hm : s.mode = .halted
  · rw [if_pos hm, State.wake_eq_running ⟨hm, fun hi => h ⟨hm, hi⟩⟩]
  · rw [if_neg hm, State.wake_eq_self fun hw => hm hw.1]

theorem vector_eq (k : Fin 5) : vector k = BitVec.ofNat 16 (0x0040 + 8 * k.val) := by
  revert k
  decide

theorem bit_eq_ofNat (k : Fin 5) : 1#5 <<< k.val = BitVec.ofNat 5 (2 ^ k.val) := by
  revert k
  decide

/-- The start of a dispatch of source k: its request is cleared, and interrupts are off (R421, R423). -/
def State.acknowledge (k : Fin 5) (s : State) : State :=
  { s with ime := false, eiPending := false, mode := .running, ifr := s.ifr &&& ~~~(BitVec.ofNat 5 (2 ^ k.val)) }

section
variable {s : State} {k : Fin 5}

theorem State.wake_eq_withMode (s : State) : s.wake = { s with mode := s.wake.mode } := by
  unfold State.wake
  split <;> rfl

/-- An awake CPU enters a dispatch in mode Running or HaltBug. -/
theorem State.wake_mode_of_pending (hstop : s.mode ≠ .stopped) (h : s.pending = some k) :
    s.wake.mode = .running ∨ s.wake.mode = .haltBug := by
  have hifr := State.ifr_ne_zero_of_pending h
  rw [State.wake_mode fun hh => hifr hh.2]
  split
  · exact .inl rfl
  next hhalt =>
    cases hm : s.mode with
    | running => exact .inl rfl
    | haltBug => exact .inr rfl
    | halted => exact absurd hm hhalt
    | stopped => exact absurd hm hstop

/-- A dispatch is the acknowledgement, a push of PC, the jump to the vector and the cost. -/
theorem State.dispatch_wake (hstop : s.mode ≠ .stopped) (h : s.pending = some k) :
    s.wake.dispatch k =
      ({ (s.acknowledge k).push16 (hiByte s.pc) (loByte s.pc) with
        pc := BitVec.ofNat 16 (0x0040 + 8 * k.val) } : State).tick s.cfg.dispatchCost := by
  have hmode : (if s.wake.mode = .haltBug then .running else s.wake.mode) = Mode.running := by
    obtain hm | hm := State.wake_mode_of_pending hstop h <;> rw [hm] <;> rfl
  rw [State.dispatch, hmode, State.wake_eq_withMode, vector_eq, bit_eq_ofNat]
  rfl

theorem State.dispatch_wake_mode (hstop : s.mode ≠ .stopped) (h : s.pending = some k) :
    (s.wake.dispatch k).mode = .running := by
  rw [State.dispatch_wake hstop h, State.tick_mode, State.push16_mode]
  rfl

end

theorem step_dispatch {s : State} {k : Fin 5} (hf : s.fault = none) (hstop : s.mode ≠ .stopped)
    (ht : s.takes = some k) : step s = .next (s.wake.dispatch k) := by
  rw [step_awake hf hstop, awakeUnit_dispatch (s.wake_takes.trans ht)]

/-- Settles O36: the step is the dispatch of k, with the bus writes of the push in the open. -/
theorem dispatchTakesTheInterrupt : Obligations.DispatchTakesTheInterrupt := by
  unfold Obligations.DispatchTakesTheInterrupt
  intro s k hf hstop hime hk s0 s1 s2
  have hpush : (s.acknowledge k).push16 (hiByte s.pc) (loByte s.pc) = s2 := State.push16_eq _ _ _
  have hclock : s2.clock = s.clock := by rw [← hpush, State.push16_clock]; rfl
  have hcfg : s2.cfg = s.cfg := by rw [← hpush, State.push16_cfg]; rfl
  rw [step_dispatch hf hstop (State.takes_eq_some.mpr ⟨hime, hk⟩), State.dispatch_wake hstop hk, hpush, State.tick,
    hclock, hcfg]

end Sys2Proof.Machine

namespace Sys2Proof.Machine

/-! ## The step, said once for each kind of unit of work (R400, R403, R405, R430) -/

/-! ### Fetch -/

@[simp] theorem State.fetch_eiPending (s : State) : s.fetch.2.eiPending = s.eiPending := by
  obtain ⟨-, h⟩ | ⟨-, h | h | h⟩ := s.fetch_state <;> rw [h] <;> simp

@[simp] theorem State.fetch_clock (s : State) : s.fetch.2.clock = s.clock := by
  obtain ⟨-, h⟩ | ⟨-, h | h | h⟩ := s.fetch_state <;> rw [h] <;> simp

@[simp] theorem State.fetch_cfg (s : State) : s.fetch.2.cfg = s.cfg := (State.SameConfig.fetch s).cfg

@[simp] theorem State.fetch_ie (s : State) : s.fetch.2.ie = s.ie := by
  obtain ⟨-, h⟩ | ⟨-, h | h | h⟩ := s.fetch_state <;> rw [h] <;> simp

@[simp] theorem State.fetch_ifr (s : State) : s.fetch.2.ifr = s.ifr := by
  obtain ⟨-, h⟩ | ⟨-, h | h | h⟩ := s.fetch_state <;> rw [h] <;> simp

theorem State.wellFormed_fetch (s : State) : s.fetch.1.wellFormed = true := by
  obtain ⟨b1, b2, hf⟩ := s.fetch_fst
  rw [hf, wellFormed_decodeBytes]

section
variable {s : State}

/-- The opcode fetch ends the halt bug (R190). -/
theorem State.fetchedOpcode_mode (hstop : s.mode ≠ .stopped) (hhalt : s.mode ≠ .halted) :
    s.fetchedOpcode.mode = .running := by
  cases hm : s.mode with
  | running => rw [State.fetchedOpcode_other (by simp [hm]), State.fetched_mode, hm]
  | haltBug => rw [State.fetchedOpcode_haltBug hm]
  | halted => exact absurd hm hhalt
  | stopped => exact absurd hm hstop

/-- An instruction that is not reserved runs in mode Running. -/
theorem State.fetch_mode (hstop : s.mode ≠ .stopped) (hhalt : s.mode ≠ .halted)
    (hres : s.readVal s.pc ∉ reservedOpcodes) : s.fetch.2.mode = .running := by
  have hm := State.fetchedOpcode_mode hstop hhalt
  obtain ⟨h, -⟩ | ⟨-, h | h | h⟩ := s.fetch_state
  · exact absurd h hres
  all_goals rw [h]; simpa using hm

/-- A byte decides a row that has no operand. -/
theorem State.fetch_fst_of_byte {op : Byte} {i : Instr} (h : s.readVal s.pc = op)
    (hi : ∀ b1 b2, decodeBytes op b1 b2 = i) : s.fetch.1 = i := by
  obtain ⟨b1, b2, hf⟩ := s.fetch_fst
  rw [hf, h, hi]

theorem State.fetch_fst_ne_of_byte {op : Byte} {i : Instr} (h : s.readVal s.pc ≠ op) (hi : instrByte i 0 = op) :
    s.fetch.1 ≠ i := by
  rintro rfl
  exact h (s.instrByte_fetch ▸ hi)

end

/-! ### The commit -/

section
variable {s : State} {p : Bool}

theorem State.commitEi_of_not_pending (h : p = false ∨ s.eiPending = false) : s.commitEi p = s := by
  refine if_neg fun hc => ?_
  obtain hp | he := h
  · simp [hp] at hc
  · simp [he] at hc

theorem State.commitEi_of_pending (hp : p = true) (he : s.eiPending = true) :
    s.commitEi p = { s with ime := true, eiPending := false } := if_pos ⟨hp, he⟩

end

/-! ### The kinds of unit -/

theorem step_haltedTick {s : State} (hf : s.fault = none) (hhalt : s.mode = .halted) (hifr : s.ifr = 0) :
    step s = .next (s.tick s.cfg.haltTick) := by
  have ht := State.takes_of_noRequest hifr
  rw [step_awake hf (by simp [hhalt]), State.wake_eq_self fun h => h.2 hifr, awakeUnit_halted ht hhalt]

/-- The next states of a step from s, one constructor for each kind of unit of work. -/
inductive UnitFrom (s : State) : State → Prop where
  | stoppedTick (hstop : s.mode = .stopped) : UnitFrom s (s.tick s.cfg.stopTick)
  | dispatch (hstop : s.mode ≠ .stopped) (k : Fin 5) (ht : s.takes = some k) : UnitFrom s (s.wake.dispatch k)
  | haltedTick (hhalt : s.mode = .halted ∧ s.ifr = 0) (ht : s.takes = none) : UnitFrom s (s.tick s.cfg.haltTick)
  | reserved (hstop : s.mode ≠ .stopped) (hhalt : ¬ (s.mode = .halted ∧ s.ifr = 0)) (ht : s.takes = none)
      (hres : s.readVal s.pc ∈ reservedOpcodes) :
      UnitFrom s { s.readEff s.pc with fault := some { op := s.readVal s.pc, pc := s.pc } }
  | instruction (hstop : s.mode ≠ .stopped) (hhalt : ¬ (s.mode = .halted ∧ s.ifr = 0)) (ht : s.takes = none)
      (hres : s.readVal s.pc ∉ reservedOpcodes) {u : State} (hexec : exec s.wake.fetch.1 s.wake.fetch.2 = .next u)
      (hfault : u.fault = none) : UnitFrom s (u.commitEi s.eiPending)

/-- Where nothing is dispatched, an awake CPU at a byte that is not reserved runs an instruction and commits EI. -/
theorem awakeUnit_instruction {s : State} (hf : s.fault = none) (ht : s.takes = none) (hm : s.mode ≠ .halted)
    (hres : s.readVal s.pc ∉ reservedOpcodes) :
    ∃ u, exec s.fetch.1 s.fetch.2 = .next u ∧ u.fault = none ∧
      ∀ before : State, awakeUnit before s = .next (u.commitEi before.eiPending) := by
  obtain ⟨u, hexec⟩ := exec_completes s.fetch.1 s.fetch.2
  have hfault : u.fault = none := by
    rw [exec_fault hexec (State.fetch_fst_ne_invalid hres), State.fetch_fault, hf]
  exact ⟨u, hexec, hfault, fun before => by simp only [awakeUnit_execute ht hm, hexec, finishUnit, hfault]⟩

/-- Every step that finds no fault answers a next state, of one of the five kinds. -/
theorem step_unit {s : State} (hf : s.fault = none) : ∃ t, step s = .next t ∧ UnitFrom s t := by
  by_cases hstop : s.mode = .stopped
  · exact ⟨_, step_stopped hf hstop, .stoppedTick hstop⟩
  cases ht : s.takes with
  | some k => exact ⟨_, step_dispatch hf hstop ht, .dispatch hstop k ht⟩
  | none =>
    by_cases hhalt : s.mode = .halted ∧ s.ifr = 0
    · exact ⟨_, step_haltedTick hf hhalt.1 hhalt.2, .haltedTick hhalt ht⟩
    by_cases hres : s.readVal s.pc ∈ reservedOpcodes
    · exact ⟨_, step_reserved hf hstop hhalt ht hres, .reserved hstop hhalt ht hres⟩
    · obtain ⟨u, hexec, hfault, hunit⟩ := awakeUnit_instruction (s := s.wake) (by simpa using hf)
        (s.wake_takes.trans ht) (State.wake_mode_ne_halted hhalt) (by simpa using hres)
      exact ⟨_, (step_awake hf hstop).trans (hunit s), .instruction hstop hhalt ht hres hexec hfault⟩

theorem UnitFrom.of_step {s t : State} (h : step s = .next t) : s.fault = none ∧ UnitFrom s t := by
  cases hf : s.fault with
  | some x => rw [step_faulted hf] at h; cases h
  | none =>
    obtain ⟨t', hstep, hunit⟩ := step_unit hf
    rw [h] at hstep
    cases hstep
    exact ⟨rfl, hunit⟩

/-! ### What step returns (R403) -/

section
variable {s t : State}

theorem stepResult_faulted {x : InvalidOpcode} (h : s.fault = some x) : stepResult s = some (.fault x) := by
  have hstep := step_faulted h
  unfold step at hstep
  simp only [stepResult, hstep]

theorem stepResult_of_fault {x : InvalidOpcode} (h : step s = .next t) (hx : t.fault = some x) :
    stepResult s = some (.fault x) := by
  unfold step at h
  simp only [stepResult, h, hx]

theorem stepResult_of_noFault (h : step s = .next t) (hf : t.fault = none) :
    stepResult s = some (.ok (t.clock - s.clock)) := by
  unfold step at h
  simp only [stepResult, h, hf]

/-- The count of a step is what it adds to the clock. -/
theorem stepResult_of_clock {n : Nat} (h : step s = .next t) (hf : t.fault = none) (hc : t.clock = s.clock + n) :
    stepResult s = some (.ok n) := by
  rw [stepResult_of_noFault h hf, hc, Nat.add_sub_cancel_left]

end

/-! ### Faults (R404 to R407) -/

@[simp] theorem State.dispatch_fault (k : Fin 5) (s : State) : (s.dispatch k).fault = s.fault := by
  simp [State.dispatch]

/-- Settles O33: each of the five kinds of unit answers a next state; of the host's moves only a reset and an accepted
save state write the fault. -/
theorem stepStopsExactlyOnARecordedFault : Obligations.StepStopsExactlyOnARecordedFault := by
  unfold Obligations.StepStopsExactlyOnARecordedFault
  refine ⟨fun s hf => ?_, fun s x hx => ⟨step_faulted hx, stepResult_faulted hx⟩, fun s x a v mask n hx => ?_,
    State.hostReset_fault⟩
  · obtain ⟨t, hstep, -⟩ := step_unit hf
    exact ⟨t, hstep⟩
  · exact ⟨rfl, (State.readEff_fault a s).trans hx, (State.busWrite_fault a v s).trans hx, hx, hx, rfl⟩

/-- Settles O34: of the five kinds of unit only the one at a reserved byte leaves a fault. -/
theorem faultOnlyFromReservedByte : Obligations.FaultOnlyFromReservedByte := by
  unfold Obligations.FaultOnlyFromReservedByte
  intro s t x hf hstep hx
  cases (UnitFrom.of_step hstep).2 with
  | stoppedTick | haltedTick => simp [hf] at hx
  | dispatch => simp [hf] at hx
  | instruction _ _ _ _ _ hfault => simp [hfault] at hx
  | reserved hstop hhalt ht hres =>
    cases hx
    exact ⟨hstop, hhalt, ht, rfl, hres, rfl, rfl, by simp, by simp, by simp⟩

/-! ### EI and DI (R308, R309, R402) -/

section
variable {s u : State}

theorem exec_di (s : State) : exec .di s = .next (({ s with ime := false, eiPending := false } : State).tick 4) := rfl

theorem exec_ei (s : State) : exec .ei s = .next (({ s with eiPending := true } : State).tick 4) := rfl

/-- No instruction but DI takes ei_pending back. -/
theorem exec_keeps_eiPending {i : Instr} (h : exec i s = .next u) (hdi : i ≠ .di) (hs : s.eiPending = true) :
    u.eiPending = true := by
  by_cases hei : i = .ei
  · rw [hei, exec_ei] at h
    cases h
    rfl
  · rw [exec_eiPending h hdi hei, hs]

/-- Only DI and RETI change IME. -/
theorem exec_keeps_ime {i : Instr} (h : exec i s = .next u) (hdi : i ≠ .di) (hreti : i ≠ .reti) : u.ime = s.ime := by
  obtain hu | ⟨hi, -⟩ | ⟨hi, -⟩ := exec_ime h
  · exact hu
  · exact absurd hi hdi
  · exact absurd hi hreti

end

/-- Settles O38: of the five kinds of unit the hypotheses leave a reserved byte and an instruction; of the instructions
only EI and DI write ei_pending, and the commit clears it. -/
theorem eiTakesEffectAfterTheNextInstruction : Obligations.EiTakesEffectAfterTheNextInstruction := by
  unfold Obligations.EiTakesEffectAfterTheNextInstruction
  intro s t _ hmode htakes hstep
  cases (UnitFrom.of_step hstep).2 with
  | stoppedTick hstop => simp [hstop] at hmode
  | dispatch _ k ht => simp [htakes] at ht
  | haltedTick hhalt => simp [hhalt.1] at hmode
  | reserved _ _ _ hres =>
    refine ⟨fun _ h => ?_, fun _ _ h => by simp at h, fun h => ?_, fun hp _ _ _ => ⟨by simp, by simpa using hp⟩⟩
    · exact absurd hres (by rw [h]; decide)
    · exact absurd hres (by rw [h]; decide)
  | @instruction _ _ _ hres u hexec _ =>
    have hawake : s.wake = s := State.wake_eq_self fun h => by simp [h.1] at hmode
    rw [hawake] at hexec
    refine ⟨fun hp h => ?ei, fun hp h _ => ?pending, fun h => ?di, fun hp hei hdi hreti => ?other⟩
    case ei =>
      rw [State.fetch_fst_of_byte h fun _ _ => rfl, exec_ei] at hexec
      cases hexec
      rw [State.commitEi_of_not_pending (.inl hp)]
      exact ⟨s.fetch_ime, rfl⟩
    case pending =>
      have hu := exec_keeps_eiPending hexec (State.fetch_fst_ne_of_byte h rfl) (s.fetch_eiPending.trans hp)
      rw [State.commitEi_of_pending hp hu]
      exact ⟨rfl, rfl⟩
    case di =>
      rw [State.fetch_fst_of_byte h fun _ _ => rfl, exec_di] at hexec
      cases hexec
      rw [State.commitEi_of_not_pending (.inr rfl)]
      exact ⟨rfl, rfl⟩
    case other =>
      have hnotDi := State.fetch_fst_ne_of_byte (i := .di) hdi rfl
      have hime := exec_keeps_ime hexec hnotDi (State.fetch_fst_ne_of_byte hreti rfl)
      have hei := exec_eiPending hexec hnotDi (State.fetch_fst_ne_of_byte hei rfl)
      rw [State.commitEi_of_not_pending (.inl hp)]
      exact ⟨hime.trans s.fetch_ime, hei.trans (s.fetch_eiPending.trans hp)⟩

end Sys2Proof.Machine

namespace Sys2Proof.Machine

/-! ## The clock of a step (R403, R480) -/

/-- Every byte that is not reserved costs one of six numbers of T. -/
theorem State.costT_mem (s : State) {op : Byte} (h : op ∉ reservedOpcodes) (b1 : Byte) :
    s.costT op b1 ∈ [4, 8, 12, 16, 20, 24] := by
  have hcb : ∀ b : Byte, costCell cbCostTable b ∈ [4, 8, 12, 16, 20, 24] := by decide
  have hbase : ∀ op : Byte, op ∉ reservedOpcodes → op ≠ 0xCB →
      costCell baseCostTable op ∈ [4, 8, 12, 16, 20, 24] := by decide
  unfold State.costT
  split
  · exact hcb b1
  next hne =>
    split
    · exact hbase op h hne
    · unfold notTakenCost
      split <;> decide

section
variable {s t : State}

/-- A step that leaves no fault adds a tick, the dispatch cost or an instruction's cost. -/
theorem UnitFrom.clock (h : UnitFrom s t) (hf : t.fault = none) :
    ∃ n, t.clock = s.clock + cyclesIn s.cfg n ∧
      (n ∈ [s.cfg.stopTick, s.cfg.haltTick, s.cfg.dispatchCost] ∨ n ∈ [4, 8, 12, 16, 20, 24]) := by
  cases h with
  | stoppedTick => exact ⟨_, rfl, .inl (by simp)⟩
  | haltedTick => exact ⟨_, rfl, .inl (by simp)⟩
  | dispatch _ k => exact ⟨s.cfg.dispatchCost, by simp [State.dispatch], .inl (by simp)⟩
  | reserved => simp at hf
  | @instruction _ _ _ hres u hexec _ =>
    obtain ⟨u', hexec', hclock⟩ := exec_hasCost _ s.wake.wellFormed_fetch s.wake.fetch.2
    rw [hexec] at hexec'
    cases hexec'
    refine ⟨instrCost s.wake.fetch.1 s.wake.fetch.2, by simpa using hclock, .inr (State.costT_mem _ ?_ _)⟩
    rwa [State.instrByte_fetch, State.readVal_wake, State.wake_pc]

theorem stepResult_eq_ok {n : Nat} (h : stepResult s = some (.ok n)) :
    ∃ t, step s = .next t ∧ UnitFrom s t ∧ t.fault = none ∧ t.clock = s.clock + n := by
  cases hf : s.fault with
  | some x => simp [stepResult_faulted hf] at h
  | none =>
    obtain ⟨t, hstep, hunit⟩ := step_unit hf
    cases ht : t.fault with
    | some x => simp [stepResult_of_fault hstep ht] at h
    | none =>
      obtain ⟨c, hclock, -⟩ := hunit.clock ht
      have hn : t.clock - s.clock = n := by simpa [stepResult_of_noFault hstep ht] using h
      exact ⟨t, hstep, hunit, ht, by omega⟩

theorem stepResult_eq_fault {x : InvalidOpcode} (h : stepResult s = some (.fault x)) :
    s.fault = some x ∨ (s.fault = none ∧ ∃ t, step s = .next t ∧ t.fault = some x) := by
  cases hf : s.fault with
  | some y =>
    rw [stepResult_faulted hf] at h
    cases h
    exact .inl rfl
  | none =>
    obtain ⟨t, hstep, -⟩ := step_unit hf
    cases ht : t.fault with
    | none => simp [stepResult_of_noFault hstep ht] at h
    | some y =>
      rw [stepResult_of_fault hstep ht] at h
      cases h
      exact .inr ⟨rfl, t, hstep, ht⟩

end

theorem stepResult_completes (s : State) : ∃ r, stepResult s = some r := by
  cases hf : s.fault with
  | some x => exact ⟨_, stepResult_faulted hf⟩
  | none =>
    obtain ⟨t, hstep, -⟩ := step_unit hf
    cases ht : t.fault with
    | some x => exact ⟨_, stepResult_of_fault hstep ht⟩
    | none => exact ⟨_, stepResult_of_noFault hstep ht⟩

/-- Settles O41: a count is what the unit of work adds to the clock, and a unit that leaves a fault adds nothing. -/
theorem stepReturnsWhatItAddsToTheClock : Obligations.StepReturnsWhatItAddsToTheClock := by
  unfold Obligations.StepReturnsWhatItAddsToTheClock
  refine ⟨stepResult_completes, fun s n h => ?_, fun s x h => ?_, fun s n hunit hhalt hstop hdisp h => ?_⟩
  · obtain ⟨t, hstep, -, hf, hclock⟩ := stepResult_eq_ok h
    exact ⟨t, hstep, hf, hclock⟩
  · obtain hx | ⟨hf, t, hstep, hx⟩ := stepResult_eq_fault h
    · exact .inl ⟨hx, step_faulted hx⟩
    · obtain ⟨-, -, -, -, -, -, -, -, hclock, -⟩ := faultOnlyFromReservedByte s t x hf hstep hx
      exact .inr ⟨hf, t, hstep, hx, hclock⟩
  · obtain ⟨t, -, hu, hf, hclock⟩ := stepResult_eq_ok h
    obtain ⟨c, hc, hmem⟩ := hu.clock hf
    have hn : n = c := by
      rw [hclock, cyclesIn, hunit] at hc
      exact Nat.add_left_cancel hc
    rw [hstop, hhalt, hdisp] at hmem
    rw [hn]
    obtain h | h := hmem
    · simp only [List.mem_cons, List.not_mem_nil, or_false] at h ⊢
      omega
    · exact h

/-! ## Modes (R405, R430 to R434) -/

theorem HostAction.mode_apply (s : State) {act : HostAction} (hreset : ∀ dr, act ≠ .reset dr)
    (hrestore : ∀ sv, act ≠ .restoreFrom sv) : (act.apply s).mode = s.mode := by
  cases act with
  | read a => exact State.readEff_mode a s
  | write a v => exact State.busWrite_mode a v s
  | request _ | rtcAdvance _ | saveOut => rfl
  | reset dr => exact absurd rfl (hreset dr)
  | restoreFrom sv => exact absurd rfl (hrestore sv)

/-- The mode that an instruction leaves, by the opcode byte. -/
theorem mode_of_instruction {s u : State} (hstop : s.mode ≠ .stopped) (hhalt : s.mode ≠ .halted)
    (hres : s.readVal s.pc ∉ reservedOpcodes) (hexec : exec s.fetch.1 s.fetch.2 = .next u) :
    u.mode = if s.readVal s.pc = 0x76 then s.haltMode else if s.readVal s.pc = 0x10 then .stopped else .running := by
  split
  next hb =>
    rw [State.fetch_fst_of_byte hb fun _ _ => rfl, exec_halt] at hexec
    cases hexec
    simp [State.haltMode]
  next hnotHalt =>
    split
    next hb =>
      obtain ⟨b1, b2, hfetch⟩ := s.fetch_fst
      rw [hfetch, hb] at hexec
      cases hexec
      rfl
    next hnotStop =>
      rw [exec_mode hexec (State.fetch_fst_ne_of_byte hnotHalt rfl) fun n => State.fetch_fst_ne_of_byte hnotStop rfl,
        State.fetch_mode hstop hhalt hres]

/-- Settles O40: each of the five kinds of unit leaves its mode, and an instruction that of its opcode byte. -/
theorem modeTransitionsAreComplete : Obligations.ModeTransitionsAreComplete := by
  unfold Obligations.ModeTransitionsAreComplete
  refine ⟨fun s t hstep => ?_, State.hostReset_mode, fun cfg img dr s hload => ?_,
    fun s act => HostAction.mode_apply s⟩
  · cases (UnitFrom.of_step hstep).2 with
    | stoppedTick hstop => rw [if_pos hstop, State.tick_mode, hstop]
    | dispatch hstop k ht =>
      rw [if_neg hstop, if_pos (by simp [ht]), State.dispatch_wake_mode hstop (State.takes_eq_some.mp ht).2]
    | haltedTick hhalt ht =>
      rw [if_neg (by simp [hhalt.1]), if_neg (by simp [ht]), if_pos hhalt, State.tick_mode, hhalt.1]
    | reserved hstop hhalt ht hres =>
      have hbyte {op : Byte} (hop : op ∉ reservedOpcodes) : s.readVal s.pc ≠ op := fun h => hop (h ▸ hres)
      rw [if_neg hstop, if_neg (by simp [ht]), if_neg hhalt, if_neg (hbyte (by decide)), if_neg (hbyte (by decide)),
        if_pos hres]
      exact State.readEff_mode _ _
    | instruction hstop hhalt ht hres hexec =>
      have hawake : s.wake.mode ≠ .stopped := by
        rw [State.wake_mode hhalt]
        split
        · decide
        · exact hstop
      have hmode := mode_of_instruction hawake (State.wake_mode_ne_halted hhalt) (by simpa using hres) hexec
      rw [if_neg hstop, if_neg (by simp [ht]), if_neg hhalt, if_neg hres, State.commitEi_mode, hmode, State.readVal_wake,
        State.wake_pc, State.haltMode, State.wake_ime, State.wake_ie, State.wake_ifr]
  · obtain ⟨cart, mbc, -, rfl⟩ := State.load_ok hload
    exact State.initial_mode _ _ _ _ _

/-! ### Stopped and Halted (R424, R430 to R433) -/

/-- A request, enabled or not, makes the step of a halted CPU that of a running one, but for the rollback (R405, R430). -/
theorem step_woken {s : State} (hf : s.fault = none) (hhalt : s.mode = .halted) (hifr : s.ifr ≠ 0)
    (h : s.takes ≠ none ∨ s.readVal s.pc ∉ reservedOpcodes) : step s = step { s with mode := .running } := by
  have hwake : s.wake = { s with mode := .running } := State.wake_eq_running ⟨hhalt, hifr⟩
  have hself : s.wake.wake = s.wake := State.wake_eq_self fun hh => by simp [hwake] at hh
  have hrunning : s.wake.mode ≠ .halted := by simp [hwake]
  rw [step_awake hf (by simp [hhalt]), ← hwake, step_awake (by simpa using hf) (by simp [hwake]), hself]
  cases ht : s.takes with
  | some k => rw [awakeUnit_dispatch (s.wake_takes.trans ht), awakeUnit_dispatch (s.wake_takes.trans ht)]
  | none =>
    have hres : s.wake.readVal s.wake.pc ∉ reservedOpcodes := by simpa using h.resolve_left (not_not.mpr ht)
    obtain ⟨u, -, -, hunit⟩ := awakeUnit_instruction (by simpa using hf) (s.wake_takes.trans ht) hrunning hres
    rw [hunit, hunit, State.wake_eiPending]

/-- Settles O35: a tick of either kind, the step of a woken CPU, and the modes that the host's moves leave. -/
theorem stoppedAndHaltedUnits : Obligations.StoppedAndHaltedUnits := by
  unfold Obligations.StoppedAndHaltedUnits
  refine ⟨fun s hf hm => ?_, fun s hf hm hi => ?_, fun s hf hm hi => ⟨step_woken hf hm hi, fun ⟨ht, hres⟩ => ?_⟩,
    fun s mask => rfl, State.hostReset_mode, fun s act hm hleft => ?_⟩
  · have hstep := step_stopped hf hm
    exact ⟨hstep, stepResult_of_clock hstep hf rfl⟩
  · have hstep := step_haltedTick hf hm hi
    exact ⟨hstep, stepResult_of_clock hstep hf rfl⟩
  · exact step_reserved hf (by simp [hm]) (fun h => hi h.2) ht hres
  · by_contra hne
    rw [not_or, not_exists, not_exists] at hne
    exact hleft ((HostAction.mode_apply s hne.1 hne.2).trans hm)

end Sys2Proof.Machine

namespace Sys2Proof.Machine

/-! ## The save state (R441, R443, R50, R51, R54, R143) -/

/-! ### A field as a byte -/

/-- A field of up to eight bits is in the byte that holds it. -/
theorem setWidth_setWidth_byte {w : Nat} (hw : w ≤ 8) (v : BitVec w) : (v.setWidth 8).setWidth w = v := by
  rw [BitVec.setWidth_setWidth_of_le _ hw, BitVec.setWidth_eq]

/-- A byte that fits in a field is what the field holds. -/
theorem byte_setWidth_setWidth {w : Nat} {v : Byte} (h : v.toNat < 2 ^ w) : (v.setWidth w).setWidth 8 = v := by
  apply BitVec.eq_of_toNat_eq
  rw [BitVec.toNat_setWidth, BitVec.toNat_setWidth, Nat.mod_eq_of_lt h, Nat.mod_eq_of_lt v.isLt]

/-! ### A clock as five bytes -/

theorem Rtc.toRtc_toBytes (k : Rtc) : k.toBytes.toRtc = k := by
  have dh : ∀ carry halt dayHi : Bool,
      let v : Byte := BitVec.ofBool carry ++ BitVec.ofBool halt ++ 0#5 ++ BitVec.ofBool dayHi
      v.getLsbD 0 = dayHi ∧ v.getLsbD 6 = halt ∧ v.getLsbD 7 = carry := by decide
  obtain ⟨hday, hhalt, hcarry⟩ := dh k.carry k.halt k.dayHi
  simp only [Rtc.toBytes, RtcBytes.toRtc, Rtc.write, Rtc.read, setWidth_setWidth_byte (w := 6) (by decide),
    setWidth_setWidth_byte (w := 5) (by decide), hday, hhalt, hcarry]

/-- The five bytes of a clock keep the used bits alone. -/
theorem RtcBytes.toBytes_toRtc (r : RtcBytes) :
    r.toRtc.toBytes =
      { s := r.s &&& 0x3F, m := r.m &&& 0x3F, hr := r.hr &&& 0x1F, dl := r.dl, dh := r.dh &&& 0xC1 } := by
  have hs : r.toRtc.read .s = r.s &&& 0x3F := Rtc.read_write_same Rtc.zero r.s .s
  have hm : r.toRtc.read .m = r.m &&& 0x3F := Rtc.read_write_same Rtc.zero r.m .m
  have hhr : r.toRtc.read .hr = r.hr &&& 0x1F := Rtc.read_write_same Rtc.zero r.hr .hr
  have hdh : r.toRtc.read .dh = r.dh &&& 0xC1 := Rtc.read_write_same Rtc.zero r.dh .dh
  rw [Rtc.toBytes, hs, hm, hhr, hdh]
  rfl

/-- The unused bits of the five bytes are 0. -/
def RtcBytes.Fits (r : RtcBytes) : Prop :=
  r.s.toNat < 64 ∧ r.m.toNat < 64 ∧ r.hr.toNat < 32 ∧ r.dh &&& 0x3E = 0

theorem RtcBytes.wf_iff_fits {r : RtcBytes} : r.wf = true ↔ r.Fits := by
  have six : ∀ v : Byte, v &&& 0x3F = v ↔ v.toNat < 64 := by decide
  have five : ∀ v : Byte, v &&& 0x1F = v ↔ v.toNat < 32 := by decide
  have dh : ∀ v : Byte, v &&& 0xC1 = v ↔ v &&& 0x3E = 0 := by decide
  obtain ⟨s, m, hr, dl, d⟩ := r
  simp only [RtcBytes.wf, RtcBytes.toBytes_toRtc, decide_eq_true_eq, RtcBytes.mk.injEq, six, five, dh, true_and,
    RtcBytes.Fits]

theorem RtcBytes.wf_toBytes (k : Rtc) : k.toBytes.wf = true := by
  rw [RtcBytes.wf, Rtc.toRtc_toBytes, decide_eq_true rfl]

theorem RtcBytes.toBytes_of_wf {r : RtcBytes} (h : r.wf = true) : r.toRtc.toBytes = r := of_decide_eq_true h

/-! ### The RAM bank or RTC register selected, as a byte -/

theorem Sel.ofByte_toByte {hasRtc : Bool} {sel : Sel} (h : ∀ reg, sel = .rtc reg → hasRtc = true) :
    Sel.ofByte hasRtc sel.toByte = some sel := by
  cases sel with
  | ram bank =>
    clear h
    revert hasRtc bank
    decide
  | rtc reg =>
    rw [h reg rfl]
    cases reg <;> rfl

/-- The bytes that select something (R142). -/
theorem Sel.of_ofByte {hasRtc : Bool} {v : Byte} {sel : Sel} (h : Sel.ofByte hasRtc v = some sel) :
    sel.toByte = v ∧ (v.toNat ≤ 3 ∨ (hasRtc = true ∧ 0x08 ≤ v.toNat ∧ v.toNat ≤ 0x0C)) := by
  obtain ⟨hyes, hno⟩ := Sel.ofByte_spec hasRtc v
  have hv : v.toNat ≤ 3 ∨ (hasRtc = true ∧ 0x08 ≤ v.toNat ∧ v.toNat ≤ 0x0C) := by
    by_contra hv
    simp [hno hv] at h
  exact ⟨by simpa [h] using hyes hv, hv⟩

/-! ### The banking state -/

/-- The bytes of a banking state are values of their fields on a controller, of the same variant. -/
def SavedMbc.Fits : Mbc → SavedMbc → Prop
  | .romOnly, .romOnly => True
  | .mbc1 _, .mbc1 _ bank1 bank2 mode =>
    1 ≤ bank1.toNat ∧ bank1.toNat ≤ 31 ∧ bank2.toNat ≤ 3 ∧ mode.toNat ≤ 1
  | .mbc3 m, .mbc3 _ romBank sel _ live latched =>
    1 ≤ romBank.toNat ∧ romBank.toNat ≤ 127 ∧
    (sel.toNat ≤ 0x03 ∨ (m.hasRtc = true ∧ 0x08 ≤ sel.toNat ∧ sel.toNat ≤ 0x0C)) ∧
    live.Fits ∧ latched.Fits
  | _, _ => False

section
variable {m m' : Mbc} {sv : SavedMbc}

theorem SavedMbc.restore_of_fits (h : SavedMbc.Fits m sv) : ∃ m', SavedMbc.restore m sv = some m' := by
  unfold SavedMbc.Fits at h
  split at h
  case h_1 => exact ⟨_, rfl⟩
  case h_2 =>
    obtain ⟨hpos, hbank1, hbank2, hmode⟩ := h
    exact ⟨_, if_pos ⟨hpos, by omega, by omega, by omega⟩⟩
  case h_3 m _ romBank sel _ live latched =>
    obtain ⟨hpos, hbank, hsel, hlive, hlatched⟩ := h
    obtain ⟨sel', hsel', -⟩ := Option.map_eq_some_iff.mp ((Sel.ofByte_spec m.hasRtc sel).1 hsel)
    simp only [SavedMbc.restore, hsel']
    exact ⟨_, if_pos ⟨hpos, by omega, RtcBytes.wf_iff_fits.mpr hlive, RtcBytes.wf_iff_fits.mpr hlatched⟩⟩
  case h_4 => exact h.elim

theorem bank_ne_zero {w : Nat} {v : Byte} (hpos : 0 < v.toNat) (h : v.toNat < 2 ^ w) : v.setWidth w ≠ 0 := by
  intro hz
  have hv : v.toNat = 0 := by simpa [Nat.mod_eq_of_lt h] using congrArg BitVec.toNat hz
  omega

/-- What is accepted fits, and the controller holds it, well-formed. -/
theorem SavedMbc.of_restore (h : SavedMbc.restore m sv = some m') :
    SavedMbc.Fits m sv ∧ m'.save = sv ∧ m'.wf = true := by
  unfold SavedMbc.restore at h
  split at h
  case h_1 =>
    cases h
    exact ⟨trivial, rfl, rfl⟩
  case h_2 =>
    split at h
    next hb =>
      obtain ⟨hpos, hbank1, hbank2, hmode⟩ := hb
      cases h
      refine ⟨⟨hpos, by omega, by omega, by omega⟩, ?_, decide_eq_true (bank_ne_zero hpos hbank1)⟩
      simp only [Mbc.save, byte_setWidth_setWidth (w := 5) hbank1, byte_setWidth_setWidth (w := 2) hbank2,
        byte_setWidth_setWidth (w := 1) hmode]
    next => cases h
  case h_3 m _ romBank sel _ live latched =>
    split at h
    next sel' hsel =>
      split at h
      next hb =>
        obtain ⟨hpos, hbank, hlive, hlatched⟩ := hb
        obtain ⟨hbyte, hfits⟩ := Sel.of_ofByte hsel
        cases h
        refine ⟨⟨hpos, by omega, hfits, RtcBytes.wf_iff_fits.mp hlive, RtcBytes.wf_iff_fits.mp hlatched⟩, ?_, ?_⟩
        · simp only [Mbc.save, byte_setWidth_setWidth (w := 7) hbank, hbyte, RtcBytes.toBytes_of_wf hlive,
            RtcBytes.toBytes_of_wf hlatched]
        · have hrtc : ∀ reg, sel' = .rtc reg → m.hasRtc = true := fun reg hr => Sel.hasRtc_of_rtc (hr ▸ hsel)
          simp only [Mbc.wf, decide_eq_true (bank_ne_zero (w := 7) hpos hbank), Bool.true_and]
          cases sel' with
          | ram _ => rfl
          | rtc reg => exact hrtc reg rfl
      next => cases h
    next => cases h
  case h_4 => cases h

/-- A controller of the same variant takes the banking state back. -/
theorem SavedMbc.restore_save (hwf : m'.wf = true) (h : Mbc.sameVariant m m' = true) :
    SavedMbc.restore m m'.save = some m' := by
  have five : ∀ v : BitVec 5, v ≠ 0 → 0 < (v.setWidth 8).toNat ∧ (v.setWidth 8).toNat < 32 := by decide
  have seven : ∀ v : BitVec 7, v ≠ 0 → 0 < (v.setWidth 8).toNat ∧ (v.setWidth 8).toNat < 128 := by decide
  have two : ∀ v : BitVec 2, (v.setWidth 8).toNat < 4 := by decide
  have one : ∀ v : BitVec 1, (v.setWidth 8).toNat < 2 := by decide
  unfold Mbc.sameVariant at h
  split at h
  case h_1 => rfl
  case h_2 m m' =>
    obtain ⟨hpos, hbank1⟩ := five m'.bank1 (of_decide_eq_true hwf)
    simp only [Mbc.save, SavedMbc.restore]
    rw [if_pos ⟨hpos, hbank1, two _, one _⟩, setWidth_setWidth_byte (by decide), setWidth_setWidth_byte (by decide),
      setWidth_setWidth_byte (by decide)]
  case h_3 m m' =>
    simp only [Mbc.wf, Bool.and_eq_true, decide_eq_true_eq] at hwf
    obtain ⟨hbank, hsel⟩ := hwf
    obtain ⟨hpos, hlt⟩ := seven m'.romBank hbank
    have hrtc : ∀ reg, m'.sel = .rtc reg → m.hasRtc = true := fun reg hr => by
      rw [hr] at hsel
      rw [eq_of_beq h]
      exact hsel
    simp only [Mbc.save, SavedMbc.restore, Sel.ofByte_toByte hrtc]
    rw [if_pos ⟨hpos, hlt, RtcBytes.wf_toBytes _, RtcBytes.wf_toBytes _⟩, setWidth_setWidth_byte (by decide),
      Rtc.toRtc_toBytes, Rtc.toRtc_toBytes, eq_of_beq h]
  case h_4 => cases h

end

/-! ### The whole save state -/

theorem SaveState.wf_iff {n : Nat} {sv : SaveState} :
    SaveState.wf n sv = true ↔ sv.f &&& 0x0F = 0 ∧ sv.ie.toNat < 0x20 ∧ sv.ifr.toNat < 0x20 ∧
      Memory.wf 0x2000 sv.wram = true ∧ Memory.wf 0x7F sv.hram = true ∧ Memory.wf n sv.cram = true := by
  simp only [SaveState.wf, Bool.and_eq_true, decide_eq_true_eq, and_assoc]

/-- The console with every field of R54 replaced, the banking state by a controller. -/
def State.replaced (sv : SaveState) (mbc : Mbc) (s : State) : State :=
  { s with
    a := sv.a, f := sv.f, b := sv.b, c := sv.c, d := sv.d, e := sv.e, h := sv.h, l := sv.l
    sp := sv.sp, pc := sv.pc, ime := sv.ime, eiPending := sv.eiPending, mode := sv.mode
    clock := sv.clock, fault := sv.fault, ie := sv.ie.setWidth 5, ifr := sv.ifr.setWidth 5
    wram := sv.wram, hram := sv.hram, mbc := mbc, cram := sv.cram }

section
variable {s t : State} {sv : SaveState} {mbc : Mbc}

theorem State.restore_accepted (hm : SavedMbc.restore s.mbc sv.mbc = some mbc)
    (hwf : SaveState.wf s.cart.ramSize sv = true) : s.restore sv = .ok (s.replaced sv mbc) := by
  simp only [State.restore, hm, hwf]
  rfl

theorem State.of_restore (h : s.restore sv = .ok t) :
    ∃ mbc, SavedMbc.restore s.mbc sv.mbc = some mbc ∧ SaveState.wf s.cart.ramSize sv = true ∧
      t = s.replaced sv mbc := by
  unfold State.restore at h
  split at h
  next mbc hm hwf =>
    cases h
    exact ⟨mbc, hm, hwf, rfl⟩
  next => cases h

theorem State.restore_refused (h : ∀ t, s.restore sv ≠ .ok t) : s.restore sv = .error .illFormed := by
  cases hr : s.restore sv with
  | ok t => exact absurd hr (h t)
  | error e => cases e; rfl

theorem State.saveState_replaced (hm : mbc.save = sv.mbc) (hie : sv.ie.toNat < 0x20) (hifr : sv.ifr.toNat < 0x20) :
    (s.replaced sv mbc).saveState = sv := by
  have h : (s.replaced sv mbc).saveState =
      { sv with ie := (sv.ie.setWidth 5).setWidth 8, ifr := (sv.ifr.setWidth 5).setWidth 8, mbc := mbc.save } := rfl
  rw [h, byte_setWidth_setWidth (w := 5) hie, byte_setWidth_setWidth (w := 5) hifr, hm]

theorem State.Inv.saveState_wf (h : s.Inv) : SaveState.wf s.cart.ramSize s.saveState = true := by
  have five : ∀ v : BitVec 5, (v.setWidth 8).toNat < 0x20 := by decide
  exact SaveState.wf_iff.mpr ⟨h.flagsLow, five s.ie, five s.ifr, h.wram, h.hram, h.cram⟩

/-- A console of the same configuration and peripheral record takes a well-formed state back whole. -/
theorem State.Inv.restore_saveState (hs : s.Inv) (hcfg : t.cfg = s.cfg) (hcart : t.cart = s.cart)
    (hvar : Mbc.sameVariant t.mbc s.mbc = true) (hdraws : t.draws = s.draws) (hstub : t.stub = s.stub) :
    t.restore s.saveState = .ok s := by
  have hwf : SaveState.wf t.cart.ramSize s.saveState = true := hcart ▸ hs.saveState_wf
  have hback : t.replaced s.saveState s.mbc =
      { s with
        cfg := t.cfg, cart := t.cart, draws := t.draws, stub := t.stub
        ie := (s.ie.setWidth 8).setWidth 5, ifr := (s.ifr.setWidth 8).setWidth 5 } := rfl
  rw [State.restore_accepted (SavedMbc.restore_save hs.mbc hvar) hwf, hback, hcfg, hcart, hdraws, hstub,
    setWidth_setWidth_byte (by decide), setWidth_setWidth_byte (by decide)]

theorem HostAction.apply_restore_ok (h : s.restore sv = .ok t) : (HostAction.restoreFrom sv).apply s = t := by
  simp only [HostAction.apply, h]

theorem HostAction.apply_restore_error {e : ImportError} (h : s.restore sv = .error e) :
    (HostAction.restoreFrom sv).apply s = s := by
  simp only [HostAction.apply, h]

end

/-- Settles O57: what fits the console is accepted and held as it is, what does not is refused, and a well-formed state's
own save state fits. -/
theorem importOfExportIsTheSameState : Obligations.ImportOfExportIsTheSameState := by
  unfold Obligations.ImportOfExportIsTheSameState
  refine ⟨fun s hs => hs.restore_saveState rfl rfl (Mbc.sameVariant_refl _) rfl rfl,
    fun s t hs => hs.restore_saveState, ?_⟩
  intro s sv clock banking good
  have hbanking : banking = SavedMbc.Fits s.mbc sv.mbc := rfl
  have hgood : good ↔ SaveState.wf s.cart.ramSize sv = true ∧ SavedMbc.Fits s.mbc sv.mbc := by
    rw [SaveState.wf_iff, ← hbanking]
    simp only [good, and_assoc]
  refine ⟨fun hnot => ?_, fun h => ?_⟩
  · have hrefused : s.restore sv = .error .illFormed := State.restore_refused fun t h => by
      obtain ⟨mbc, hm, hwf, -⟩ := State.of_restore h
      exact hnot (hgood.mpr ⟨hwf, (SavedMbc.of_restore hm).1⟩)
    exact ⟨hrefused, HostAction.apply_restore_error hrefused⟩
  · obtain ⟨hwf, hfits⟩ := hgood.mp h
    obtain ⟨-, hie, hifr, -⟩ := SaveState.wf_iff.mp hwf
    obtain ⟨mbc, hm⟩ := SavedMbc.restore_of_fits hfits
    have hok := State.restore_accepted hm hwf
    obtain ⟨-, hsave, -⟩ := SavedMbc.of_restore hm
    exact ⟨_, hok, HostAction.apply_restore_ok hok, State.saveState_replaced hsave hie hifr, rfl, rfl, rfl, rfl⟩

end Sys2Proof.Machine

namespace Sys2Proof.Machine

/-! ## Well-formed states: the host's moves keep them, and a load makes one (R120, R122, R441 to R444) -/

theorem Mbc.wf_advance {m : Mbc} (h : m.wf = true) (n : Nat) : (m.advance n).wf = true := by
  cases m with
  | romOnly | mbc1 _ => exact h
  | mbc3 m =>
    simp only [Mbc.advance]
    split <;> exact h

theorem Mbc.wf_atReset (m : Mbc) : m.atReset.wf = true := by
  cases m <;> rfl

namespace State.Inv

variable {s t : State}

theorem hostReset (h : s.Inv) (dr : Draws) : (s.hostReset dr).Inv :=
  { State.initial_inv dr s.mbc.wf_atReset h.cram with stub := h.stub }

theorem of_restore {sv : SaveState} (h : s.Inv) (hr : s.restore sv = .ok t) : t.Inv := by
  obtain ⟨mbc, hm, hwf, rfl⟩ := State.of_restore hr
  obtain ⟨hf, -, -, hwram, hhram, hcram⟩ := SaveState.wf_iff.mp hwf
  obtain ⟨-, -, hmbc⟩ := SavedMbc.of_restore hm
  exact ⟨hf, hwram, hhram, hcram, h.stub, hmbc⟩

theorem apply (h : s.Inv) (act : HostAction) : (act.apply s).Inv := by
  cases act with
  | read a => exact h.readEff a
  | write a v => exact h.busWrite a v
  | request mask => exact { h with }
  | rtcAdvance n => exact { h with mbc := Mbc.wf_advance h.mbc n }
  | reset dr => exact h.hostReset dr
  | saveOut => exact h
  | restoreFrom sv =>
    cases hr : s.restore sv with
    | ok t => exact HostAction.apply_restore_ok hr ▸ h.of_restore hr
    | error e => exact (HostAction.apply_restore_error hr).symm ▸ h

end State.Inv

/-- A load that succeeds makes the cartridge of the image, whose codes are in the tables and whose size is its banks'. -/
theorem State.load_ok_cart {cfg : Config} {img : Image} {dr : Draws} {s : State} (h : State.load cfg img dr = .ok s) :
    ∃ mbc, mbcOf (img.byte 0x0147) = some mbc ∧
      s = State.initial cfg (img.cart mbc) mbc (Memory.ofCells (img.cart mbc).ramSize dr.cram) dr ∧
      (img.byte 0x0148).toNat ≤ 8 ∧ (img.byte 0x0149).toNat ≤ 5 ∧
      img.size = 0x8000 * 2 ^ (img.byte 0x0148).toNat := by
  obtain ⟨-, mbc, hm, -⟩ := State.load_ok h
  have hlong : ¬ img.size < 0x0150 := fun hshort => by rw [State.load, if_pos hshort] at h; cases h
  rw [State.load_of_mbcOf cfg dr hlong hm] at h
  split at h
  · cases h
  next hcodes =>
    obtain ⟨hrom, hram⟩ := not_not.mp hcodes
    split at h
    · cases h
    next hsizes =>
      cases h
      exact ⟨mbc, hm, rfl, hrom, hram, (not_not.mp hsizes).1⟩

theorem Image.cart_ok {img : Image} (mbc : Mbc) (hrom : (img.byte 0x0148).toNat ≤ 8) (hram : (img.byte 0x0149).toNat ≤ 5)
    (hsize : img.size = 0x8000 * 2 ^ (img.byte 0x0148).toNat) : (img.cart mbc).Ok where
  romBanks := ⟨img.byte 0x0148, if_pos hrom⟩
  ramSize := by
    unfold Image.cart
    by_cases hm : mbc = .romOnly
    · exact ⟨0x00, by rw [if_pos hm]; rfl⟩
    · exact ⟨img.byte 0x0149, by rw [ramSizeOf_spec, if_pos hram, if_neg hm]⟩
  rom := by
    have hbanks : (img.cart mbc).romBanks * 0x4000 = img.size := by
      rw [hsize, Image.cart]
      ring
    rw [hbanks]
    exact Memory.wf_ofCells _ _

/-- Settles O45: move by move, and a load by the cartridge of its image. -/
theorem hostActionsKeepInvariant : Obligations.HostActionsKeepInvariant := by
  unfold Obligations.HostActionsKeepInvariant
  refine ⟨fun s act hs => hs.apply act, fun cfg img dr s hload => ?_⟩
  obtain ⟨mbc, hm, rfl, hrom, hram, hsize⟩ := State.load_ok_cart hload
  refine ⟨State.initial_inv dr (mbcOf_wf hm) (Memory.wf_ofCells _ _), ?_, State.initial_cfg _ _ _ _ _⟩
  rw [State.initial_cart]
  exact Image.cart_ok mbc hrom hram hsize

end Sys2Proof.Machine
